-- ==== Sys2Proof/Word.lean ====
section
/-! DEFINITION. Bytes of the control link and the plainest arithmetic of the manual: big-endian numbers,
two's complement, clamping, the integer square root. -/

namespace Sys2Proof

/-- One byte on the control link, or one character of a name. -/
abbrev Byte := BitVec 8

/-- A text: the characters of a name, label or key (Introduction, "Names"). -/
abbrev Text := List Byte

/-- The byte of a number below 256. -/
def b8 (n : Nat) : Byte := BitVec.ofNat 8 n

/-- Two bytes, most significant first (11.8). -/
def be16 (n : Nat) : List Byte := [b8 (n / 256), b8 n]

/-- Three bytes, most significant first (11.8). -/
def be24 (n : Nat) : List Byte := [b8 (n / 65536), b8 (n / 256), b8 n]

/-- Four bytes, most significant first (11.8). -/
def be32 (n : Nat) : List Byte := [b8 (n / 16777216), b8 (n / 65536), b8 (n / 256), b8 n]

/-- The two's complement pattern of a signed number in `bits` bits (11.8). -/
def twos (bits : Nat) (v : Int) : Nat := (v % (2 ^ bits : Nat)).toNat

/-- "Clamped to a and b" (Introduction, "Numbers and arithmetic"). -/
def clampI (lo hi v : Int) : Int := if v < lo then lo else if hi < v then hi else v

/-- The distance between two positions. -/
def apart (a b : Int) : Nat := (a - b).natAbs

/-- One bit of a flags byte. -/
def bitAt (b : Bool) (i : Nat) : Nat := if b then 2 ^ i else 0

/-- Bit descent for the integer square root: `bits` more bits of the root are tried below `acc`. -/
def isqrtFrom (n : Nat) : Nat → Nat → Nat
  | 0, acc => acc
  | bits + 1, acc =>
    let c := acc + 2 ^ bits
    isqrtFrom n bits (if c * c ≤ n then c else acc)

/-- The integer square root: the floor of the square root (Introduction, "Numbers and arithmetic"). -/
def isqrt (n : Nat) : Nat := isqrtFrom n (n.log2 / 2 + 1) 0

/-- The entry of a list at a place, replaced; a place beyond the list changes nothing. -/
def listSet {α : Type} : List α → Nat → α → List α
  | [], _, _ => []
  | _ :: xs, 0, v => v :: xs
  | x :: xs, n + 1, v => x :: listSet xs n v

/-- The number, counted from `from0`, of the first entry that satisfies `p`. -/
def findFrom {α : Type} (p : α → Bool) : List α → Nat → Option Nat
  | [], _ => none
  | x :: xs, n => if p x then some n else findFrom p xs (n + 1)

end Sys2Proof
end

