-- ==== Sys2Proof/Config.lean ====
section
/-! DEFINITION. What one member of the family fixes: the constants of the reel law (2.6), the capacities of the part,
and the values the manual names and does not give, which are left without a body. -/

namespace Sys2Proof

/-- The revision number of the IDENT answer (R201, 11.8 names it and gives no value): a free value. Log entry 1. -/
opaque Config.revision : Byte

/-- The bits of an answer or a notice detail that no layout of 11.8 assigns: a free value for each step and each place in an
answer. Log entry 3. -/
opaque Config.openByte (step place : Nat) : Byte

/-- The line standard of SETTINGS (Introduction, "Line standard and frame rate"). -/
inductive Standard where
  | s625 | s525
  deriving DecidableEq, Repr

/-- A cassette's thickness class (R72). -/
inductive Thickness where
  | a | b | c
  deriving DecidableEq, Repr

namespace Config

/-- F, frames per second. -/
def frameRate : Standard → Nat
  | .s625 => 25
  | .s525 => 30

/-- One row of the table of 2.6. -/
structure Reel where
  k : Nat
  h2 : Nat
  d : Nat
  cMin : Nat
  deriving DecidableEq, Repr

/-- The table of 2.6, by standard and class. -/
def reel : Standard → Thickness → Reel
  | .s625, .a => ⟨11729, 43652, 89, 44698⟩
  | .s625, .b => ⟨15248, 56748, 69, 44698⟩
  | .s625, .c => ⟨20330, 75664, 52, 44698⟩
  | .s525, .a => ⟨13936, 36738, 75, 37617⟩
  | .s525, .b => ⟨18117, 47760, 58, 37617⟩
  | .s525, .c => ⟨24156, 63680, 43, 37617⟩

/-- The largest anchored position (2.1). -/
def maxPos : Int := 1048575
/-- The last day number of the clock (7.3). -/
def lastDay : Nat := 36524
/-- The largest tuning word (R101). -/
def maxWord : Int := 16383
/-- Capacities: presets, programme slots, cassette places, title records, slots and dead marks a cassette. -/
def nPresets : Nat := 99
def nProgrammes : Nat := 16
def nCassettes : Nat := 48
def nTitles : Nat := 256
def nSlots : Nat := 63
def nDead : Nat := 8
/-- Crystal counts of an untrimmed second (R130). -/
def countsPerSecond : Nat := 32768
/-- Seconds of a trim period (R130). -/
def trimPeriod : Nat := 600

end Config
end Sys2Proof
end

