-- ==== Sys2Proof/Syntax.lean ====
section
/-! DEFINITION. The commands: one constructor for each row of spec/opcode_table.json, with the row's operands.
A host request stands for a frame whose request is taken (R195), its parameters read by the layouts of 11.9;
a deck event stands for the edge, sample or timer expiry of its name. Parameters that a rule checks and answers RANGE
are plain numbers; parameters that code a few names are a `Choice` of them. -/

namespace Sys2Proof

/-- Recording and play speed (11.8). -/
inductive Speed where
  | std | long
  deriving DecidableEq, Repr

/-- A parameter whose byte codes one of a few names (11.9): the name, or a byte that codes none of them. The link interface
checks the code and the count of a request alone, so such a byte reaches the request's own rule (R196). -/
inductive Choice (α : Type) where
  | of (v : α)
  | other (code : Nat)
  deriving DecidableEq, Repr

/-- WIND(FF or REW). -/
inductive WindDir where
  | ff | rew
  deriving DecidableEq, Repr

/-- SEARCH(FWD or REV). -/
inductive SearchDir where
  | fwd | rev
  deriving DecidableEq, Repr

/-- Counter mode (R40). -/
inductive CounterMode where
  | tape | zero | remain
  deriving DecidableEq, Repr

/-- TUNE-STEP(up or down). -/
inductive StepDir where
  | up | down
  deriving DecidableEq, Repr

/-- The three positions of the cam switch (1.1). -/
inductive Cam where
  | haltPos | between | threadPos
  deriving DecidableEq, Repr

/-- The key of TITLE-FIND (R87). A key kind outside the two is `other`. -/
inductive FindKey where
  | namePrefix (text : Text)
  | source (code : Nat)
  | other (kind : Nat)
  deriving DecidableEq, Repr

/-- The record given by PRESET-WRITE: the fields of R99 apart from the state and the locked flag (R106). -/
structure PresetParam where
  band : Nat
  base : Nat
  fine : Int
  aft : Bool
  sound : Nat
  skip : Bool
  name : Text
  deriving DecidableEq, Repr

/-- A change of one deck input (R6), and of the levels of the end-of-tape sensors and the record tab. -/
inductive InputChange where
  | cassetteIn (active : Bool)
  | carriageDown (active : Bool)
  | ejectPosition (active : Bool)
  | cam (pos : Cam)
  | recordTab (active : Bool)
  | bot (active : Bool)
  | eot (active : Bool)
  deriving DecidableEq, Repr

/-- The levels of the deck inputs that the controller reads at a power-up (R30, R203). -/
structure Inputs where
  cassetteIn : Bool
  carriageDown : Bool
  ejectPosition : Bool
  cam : Cam
  recordTab : Bool
  bot : Bool
  eot : Bool
  dew : Bool
  powerWarning : Bool
  lineLow1 : Bool
  lineLow2 : Bool
  deriving DecidableEq, Repr

/-- The commands, in the order of the table. -/
inductive Instr where
  -- link (chapter 11)
  | null
  | notices
  | status
  | feed (on : Choice Bool)
  | ident
  | softReset
  | lineFunction (line fn : Nat)
  | setting (item value : Nat)
  | settingsRead
  /-- the frame's command code and its parameter bytes -/
  | unknownRequest (code : Nat) (params : List Byte)
  | shortFrame
  | notReadyFrame
  -- transport requests (chapter 1)
  | play
  | record
  | pause
  | stop
  | halt
  | wind (dir : Choice WindDir)
  | search (dir : Choice SearchDir)
  | eject
  | speed (v : Choice Speed)
  -- position requests (chapter 2)
  | counterMode (m : Choice CounterMode)
  | counterZero
  | memoryStop (on : Choice Bool)
  -- seeks (chapter 3)
  | seekTitle (slot : Nat)
  | seekEnd
  -- catalogue requests (chapter 4)
  | cassetteList (index : Nat)
  | cassetteRead (tag : Nat)
  | cassetteLabel (tag : Nat) (text : Text)
  | cassetteClass (tag cls : Nat)
  | cassetteRegister
  | cassetteAssign (tag : Nat)
  | cassetteRetire (tag : Nat)
  | titleRead (tag index : Nat)
  | titleReadSlot (tag slot : Nat)
  | titleName (tag index : Nat) (text : Text)
  | titleProtect (tag index : Nat) (on : Choice Bool)
  | titleRetire (tag index : Nat)
  | titleFind (tag index : Nat) (key : FindKey)
  -- tuner requests (chapters 5 and 6)
  | tune (source : Nat)
  | tuneStep (dir : Nat)
  | presetRead (n : Nat)
  | presetWrite (n : Nat) (p : PresetParam)
  | presetStoreCurrent (n : Nat)
  | presetSwap (a b : Nat)
  | presetClear (n : Nat)
  | fine (delta : Int)
  | aftStore
  | scan (mode first : Nat)
  | scanStop
  -- clock requests (chapter 7)
  | clockRead
  | clockSet (day hours minutes seconds : Nat)
  | clockShift (dir : Nat)
  | clockTrim (c : Int)
  -- programme requests (chapter 8)
  | editOpen (slot : Nat)
  | editOpenNew
  | editSet (field value : Nat)
  | editCommit
  | editDiscard
  | programmeRead (slot : Nat)
  | programmeEnable (slot : Nat)
  | programmeDisable (slot : Nat)
  | programmeClear (slot : Nat)
  | power (on : Choice Bool)
  | timerArm
  | timerDisarm
  -- lock and store requests (chapter 10)
  | unlock (code : Nat)
  | relock
  | codeSet (old new : Nat)
  | lockPreset (n : Nat) (on : Choice Bool)
  | lockTitle (tag slot : Nat) (on : Choice Bool)
  | wipePrepare
  | wipe (region : Nat)
  -- mechanism events (chapter 1)
  | cassetteIn
  /-- the levels of the record-tab switch and the BOT sensor found at that moment -/
  | loadingComplete (tab bot : Bool)
  | loadingTimeout
  | threadingComplete
  | threadingDrumTimeout
  | threadingTimeout
  | unthreadingComplete
  | unthreadingTimeout
  | ejectingComplete
  | ejectingTimeout
  | mechanismSwitchChange (c : InputChange)
  | dewActive
  | dewInactive
  | dewWaitExpiry
  | takeUpTachEdge
  | supplyTachEdge
  | reelWatchExpiry
  | stillLimit
  | recPauseLimit
  | readyIdleLimit
  /-- the period of the revolution in nanoseconds -/
  | drumPgPulse (period : Nat)
  | drumLock
  | drumUnlockTimeout
  /-- the period of the pulse and the part of it the pulse is high, in nanoseconds -/
  | controlTrackPulse (period width : Nat)
  | capstanLock
  | capstanSpeedSwitch
  | noCtlTimeout
  -- tape events (chapters 2 and 3)
  | capstanPulse
  | countingStep
  | ffWindStep
  | rewWindStep
  | supplyMeasurementComplete
  | takeUpMeasurementComplete
  /-- the level the BOT sensor changes to -/
  | botAnchor (active : Bool)
  /-- the seventeen pulses after the lead, in the order read, SHORT as true -/
  | markDecoded (bits : List Bool)
  | markPassed
  | markComplete
  -- power events (chapters 1, 7 and 10)
  | powerWarning
  | powerWarningClear
  /-- the levels of the inputs found as main power returns -/
  | powerUp (inputs : Inputs)
  /-- whether the write in flight leaves damaged contents (R189) -/
  | mainPowerLoss (damaged : Bool)
  | holdLoss
  -- clock, engine, tuner and line events (chapters 5 to 11)
  | secondEvent
  | transportFreeEvaluation
  /-- the sync detector and the discriminator reading of the sample -/
  | aftSample (sync : Bool) (d : Nat)
  | searchSweepStep (sync : Bool)
  | searchCaptureSample (sync : Bool) (d : Nat)
  | extRecFallingEdge
  | extRecRisingEdge
  | timerKeyEdge
  | ejectKeyEdge
  | stopKeyEdge
  | storeWriteComplete
  deriving DecidableEq, Repr

end Sys2Proof
end

