-- ==== Sys2Proof/Machine/State.lean ====
section
/-! DEFINITION. The state of the HK4160 as plain data, one structure for each block that owns state
(Introduction, "Functional blocks"), the reasons a step can stop, and the state after reset. -/

namespace Sys2Proof.Machine

open Sys2Proof

/-! ### Mechanism controller (chapter 1) -/

/-- The sixteen modes, in the order of their codes (11.8). -/
inductive Mode where
  | empty | loading | halted | threading | ready | play | still | searchFwd | searchRev
  | recording | recPause | ff | rew | unthreading | ejecting | fault
  deriving DecidableEq, Repr

/-- Last motion outcome (R9, and the seek outcomes of R71), in the order of their codes (11.8).
`barred` is the manual's PROTECTED. -/
inductive MotionOutcome where
  | none | done | superseded | loadFailed | fault | dew | tapeEnd | autoStop | memoryStop
  | barred | protectLimit | powerFail | found | approximate | aborted
  deriving DecidableEq, Repr

/-- Fault reason (1.6). -/
inductive FaultReason where
  | timeout | drum | reel | mechanism | power
  deriving DecidableEq, Repr

/-- Who set the pending target (R8 to R10). -/
inductive Owner where
  | host | own | timer | seek
  deriving DecidableEq, Repr

/-- The pending target: a mode, and the block it came from (1.3). -/
structure Target where
  mode : Mode
  owner : Owner
  deriving DecidableEq, Repr

/-- Record cause (1.10). -/
inductive Cause where
  | none | manual | programme (n : Nat) | external
  deriving DecidableEq, Repr

/-- A timer of the mechanism controller: stopped, or running with the milliseconds it was last set to. -/
abbrev Timer := Option Nat

/-- Mechanism controller. -/
structure Mech where
  mode : Mode
  target : Option Target
  outcome : MotionOutcome
  faultReason : Option FaultReason
  stuck : Bool
  /-- the motion in flight belongs to an EJECT taken in FAULT (R18) -/
  faultEject : Bool
  /-- record-tab state PRESENT (R2) -/
  tab : Bool
  dewLock : Bool
  cause : Cause
  recSpeed : Speed
  detected : Speed
  capstan : Speed
  /-- direction in which the capstan last ran: true is forward (R34) -/
  forward : Bool
  drumCount : Nat
  drumLock : Bool
  inWindow : Nat
  outWindow : Nat
  /-- the next control-track pulse starts a new period (R24) -/
  unmeasured : Bool
  capstanLock : Bool
  noCtl : Bool
  motionTimer : Timer
  drumTimer : Timer
  dewWait : Timer
  reelWatch : Timer
  stillTimer : Timer
  recPauseTimer : Timer
  readyTimer : Timer
  ctlTimer : Timer
  deriving DecidableEq, Repr

/-! ### Position unit (chapter 2) -/

/-- How far the position can be trusted (2.3). -/
inductive Quality where
  | unanchored | exact | estimated
  deriving DecidableEq, Repr

/-- Position and quality, held for the current load (2.1). -/
structure Place where
  p : Int
  quality : Quality
  deriving DecidableEq, Repr

/-- A partial reel measurement: tach edges after the starting edge, and counting steps (R44). -/
structure Measure where
  edges : Nat
  steps : Nat
  deriving DecidableEq, Repr

/-- Measurement pair: remaining tape, and the position at which it was found (R47). -/
structure Pair where
  remaining : Int
  pos : Int
  deriving DecidableEq, Repr

/-- Wind state (R49): C, A, the revolution edge count and the constants fixed at the wind start. -/
structure Wind where
  c : Nat
  a : Nat
  edges : Nat
  reel : Config.Reel
  deriving DecidableEq, Repr

/-- Counter value (R40). -/
inductive CounterValue where
  | seconds (v : Int)
  | absent
  | unknown
  deriving DecidableEq, Repr

/-- Position unit. -/
structure Pos where
  /-- present while a load is in progress -/
  place : Option Place
  residue : Int
  zero : Option Int
  pair : Option Pair
  takeUpLast : Option Nat
  supply : Option Measure
  takeUp : Option Measure
  wind : Option Wind
  memoryStop : Bool
  /-- the counter value last reported to the link interface (R43) -/
  shown : CounterValue
  deriving DecidableEq, Repr

/-! ### Cue unit (chapter 3) -/

/-- Load identity (R60). -/
inductive Identity where
  | none | asserted (tag : Nat) | read (tag : Nat)
  deriving DecidableEq, Repr

/-- Mark writer (R53): in WRITING, the count is the number of the pulse to be written next. -/
inductive Writer where
  | idle | writing (tag slot count : Nat)
  deriving DecidableEq, Repr

/-- A control-track pulse as it is written (R53). -/
inductive Pulse where
  | ordinary | short
  deriving DecidableEq, Repr

/-- Mark reader (R56). -/
inductive Reader where
  | waiting | hunting (n : Nat) | data (bits : List Bool)
  deriving DecidableEq, Repr

/-- Last-mark record (R59). -/
inductive LastMark where
  | absent | decoded (tag slot : Nat) (accepted : Bool) | passed
  deriving DecidableEq, Repr

/-- What a seek looks for (R65); a PLACEMENT seek's requester is the timer engine, the others' is the host. -/
inductive SeekKind where
  | title (tag slot : Nat)
  | endOf (pos : Int)
  | placement (pos : Int)
  deriving DecidableEq, Repr

/-- Phase of a seek (R65). -/
inductive SeekPhase where
  | wind | approach | scan | playIn | back
  deriving DecidableEq, Repr

/-- A running seek (R65). -/
structure Seek where
  kind : SeekKind
  phase : SeekPhase
  deriving DecidableEq, Repr

/-- Cue unit. -/
structure Cue where
  identity : Identity
  titlesOpened : Bool
  writer : Writer
  /-- half-units recorded since the last control-track pulse was written (R53) -/
  writePhase : Nat
  /-- the last control-track pulse written (R53) -/
  written : Option Pulse
  reader : Reader
  gap : Nat
  shortRun : Nat
  lastMark : LastMark
  seek : Option Seek
  deriving DecidableEq, Repr

/-! ### Catalogue (chapter 4) -/

/-- Speed of a title (R74). -/
inductive TitleSpeed where
  | std | long | mixed
  deriving DecidableEq, Repr

/-- Origin of a title (R74). -/
inductive Origin where
  | manual | programme (n : Nat) | external
  deriving DecidableEq, Repr

/-- A live title record (R74). -/
structure Title where
  tag : Nat
  slot : Option Nat
  /-- basis ANCHORED; otherwise RELATIVE -/
  anchored : Bool
  start : Int
  length : Nat
  speed : TitleSpeed
  switchAt : Option Nat
  source : Nat
  recordedAt : Nat
  origin : Origin
  isOpen : Bool
  isProtected : Bool
  locked : Bool
  incomplete : Bool
  noCue : Bool
  trimmed : Bool
  name : Text
  deriving DecidableEq, Repr

/-- A dead-mark entry (R77). -/
structure DeadMark where
  slot : Nat
  pos : Option Int
  deriving DecidableEq, Repr

/-- A cassette record (R72). `place` is the store place that keeps it (R188); `titles` are pool record numbers. -/
structure Cassette where
  tag : Nat
  label : Text
  cls : Thickness
  total : Option Nat
  registered : Nat
  lastLoaded : Nat
  titles : List Nat
  dead : List DeadMark
  place : Nat
  deriving DecidableEq, Repr

/-- The recording record (R89). -/
structure Recording where
  ref : Int
  anchored : Bool
  title : Option Nat
  tag : Option Nat
  deriving DecidableEq, Repr

/-- Catalogue. -/
structure Cat where
  cassettes : List Cassette
  /-- the title pool: a free record is none -/
  pool : List (Option Title)
  thisLoad : List Nat
  recording : Option Recording
  /-- the current title, by pool record number (R98) -/
  current : Option Nat
  /-- the model's own: where the choice of a free pool record begins; the manual leaves the choice open. Log entry 4. -/
  poolCursor : Nat
  deriving DecidableEq, Repr

/-! ### Tuning unit (chapters 5 and 6) -/

/-- Band (R99). -/
inductive Band where
  | low | high | uhf
  deriving DecidableEq, Repr

/-- A preset record (R99). -/
structure Preset where
  used : Bool
  band : Band
  base : Nat
  fine : Int
  aft : Bool
  sound : Nat
  skip : Bool
  locked : Bool
  name : Text
  deriving DecidableEq, Repr

/-- The working tuning (R101). -/
structure Working where
  band : Band
  base : Nat
  fine : Int
  aft : Bool
  sound : Nat
  offset : Int
  deriving DecidableEq, Repr

/-- Tuner owner (R115). -/
inductive TunerOwner where
  | view | scan | record | timer
  deriving DecidableEq, Repr

/-- AFT state, in the order of 5.5. -/
inductive AftState where
  | off | settling | locked | noSignal | limit
  deriving DecidableEq, Repr

/-- Mode of a station search (R119). -/
inductive ScanMode where
  | next | store
  deriving DecidableEq, Repr

/-- Phase of a station search; in CAPTURE the capture start and the samples taken (R119). -/
inductive ScanPhase where
  | sweep | capture (start : Nat) (samples : Nat)
  deriving DecidableEq, Repr

/-- A running station search (R119). -/
structure Scan where
  mode : ScanMode
  first : Nat
  phase : ScanPhase
  band : Band
  word : Nat
  clearing : Bool
  start : Working
  deriving DecidableEq, Repr

/-- Tuning unit. -/
structure Tun where
  presets : List Preset
  working : Working
  source : Nat
  owner : TunerOwner
  saved : Option Nat
  aft : AftState
  aftCount : Nat
  scan : Option Scan
  deriving DecidableEq, Repr

/-! ### Clock and hold domain (chapter 7) -/

/-- Deck power state (R157). -/
inductive DeckPower where
  | off | on | timerStandby
  deriving DecidableEq, Repr

/-- Staged change (R129). -/
inductive Staged where
  | none | set (day seconds : Nat) | shift (forward : Bool)
  deriving DecidableEq, Repr

/-- The hold domain (R129). -/
structure Hold where
  count : Nat
  periodSecond : Nat
  trim : Int
  /-- the trim that stood when the present second began (R130) -/
  secondTrim : Int
  seconds : Nat
  day : Nat
  dst : Bool
  valid : Bool
  staged : Staged
  /-- the hold-intact marker -/
  intact : Bool
  power : DeckPower
  deriving DecidableEq, Repr

/-! ### Timer engine (chapters 8 and 9) -/

/-- Programme state (R143). -/
inductive ProgState where
  | empty | waiting | held | preroll | recording | done | disabled
  deriving DecidableEq, Repr

/-- Programme kind (R142). -/
inductive ProgKind where
  | once | daily | weekdays | weekly
  deriving DecidableEq, Repr

/-- Programme speed (R142). -/
inductive ProgSpeed where
  | std | long | fit
  deriving DecidableEq, Repr

/-- Outcome results (R142), which are also the end reasons of R28. `barred` is the manual's PROTECTED. -/
inductive ProgResult where
  | none | complete | missed | noCassette | noTab | wrongCassette | barred | tapeEnd
  | protectLimit | dew | fault | powerFail | aborted
  deriving DecidableEq, Repr

/-- An occurrence: its start and stop, as minute indexes (8.2). -/
structure Occurrence where
  start : Nat
  stop : Nat
  deriving DecidableEq, Repr

/-- Outcome flags (R142). -/
structure OccFlags where
  late : Bool
  switched : Bool
  fallback : Bool
  deriving DecidableEq, Repr

/-- A programme's outcome (R142). -/
structure ProgOutcome where
  result : ProgResult
  flags : OccFlags
  span : Option Occurrence
  deriving DecidableEq, Repr

/-- A programme record (R142). -/
structure Programme where
  state : ProgState
  kind : ProgKind
  date : Nat
  start : Nat
  stop : Nat
  source : Nat
  speed : ProgSpeed
  afterLast : Bool
  target : Nat
  lastDay : Option Nat
  next : Option Occurrence
  outcome : ProgOutcome
  deriving DecidableEq, Repr

/-- The open edit buffer (R149). -/
structure Edit where
  slot : Nat
  enable : Bool
  kind : ProgKind
  date : Nat
  start : Nat
  stop : Nat
  source : Nat
  speed : ProgSpeed
  afterLast : Bool
  target : Nat
  deriving DecidableEq, Repr

/-- Preroll step of the run record (R163). -/
inductive RunPhase where
  | checking | placing | placed | recording
  deriving DecidableEq, Repr

/-- Speed plan (R163). -/
inductive Plan where
  | fixed (v : Speed)
  | fitPending
  | switchAt (count : Nat)
  | decided
  deriving DecidableEq, Repr

/-- The run record (R163): its phase is RECORDING or, with a preroll step, PREROLL. -/
structure Run where
  slot : Nat
  phase : RunPhase
  flags : OccFlags
  plan : Plan
  count : Nat
  deriving DecidableEq, Repr

/-- The external record (R163). -/
inductive External where
  | none | starting | recording
  deriving DecidableEq, Repr

/-- Timer engine. The deck power state stands in the hold domain (R129). -/
structure Tim where
  programmes : List Programme
  edit : Option Edit
  run : Option Run
  ext : External
  /-- the model's own: the transport has become free and the evaluation of R165 has not been made yet. Log entry 6. -/
  freeDue : Bool
  deriving DecidableEq, Repr

/-! ### Lock unit, store and SETTINGS (chapter 10) -/

/-- Lock state (R181). -/
inductive LockState where
  | none | locked | unlocked | frozen
  deriving DecidableEq, Repr

/-- The mark hold (R187). -/
structure MarkHold where
  tag : Nat
  slot : Nat
  seen : Bool
  deriving DecidableEq, Repr

/-- Lock unit. The lock code stands in SETTINGS (R181). -/
structure Lock where
  state : LockState
  attempts : Nat
  hold : Option MarkHold
  deriving DecidableEq, Repr

/-- Function of a function line (R203), in the order of its codes. -/
inductive LineFn where
  | none | extRec | timerKey | ejectKey | stopKey
  deriving DecidableEq, Repr

/-- SETTINGS (R188). -/
structure Settings where
  standard : Standard
  lockCode : Option Nat
  line1 : LineFn
  line2 : LineFn
  extSource : Nat
  counterMode : CounterMode
  autoRewind : Bool
  recordSpeed : Speed
  lastViewed : Nat
  aftWindow : Nat
  defaultClass : Thickness
  defaultSound : Nat
  nextTag : Nat
  deriving DecidableEq, Repr

/-- The name of one record of the store (R188). -/
inductive RecordId where
  | settings | preset (n : Nat) | programme (n : Nat) | cassette (place : Nat) | title (n : Nat)
  deriving DecidableEq, Repr

/-- The contents of one record, as a write copies them (R189). -/
inductive RecordCopy where
  | settings (v : Settings)
  | preset (n : Nat) (v : Preset)
  | programme (n : Nat) (v : Programme)
  | cassette (place : Nat) (v : Option Cassette)
  | title (n : Nat) (v : Option Title)
  deriving DecidableEq, Repr

/-- The stored copies of all records (R188). -/
structure Stored where
  settings : Settings
  presets : List Preset
  programmes : List Programme
  cassettes : List (Option Cassette)
  titles : List (Option Title)
  deriving DecidableEq, Repr

/-- The write in flight (R189). `afterWipe`: it started after the wipe in progress was accepted (R194). -/
structure Flight where
  copy : RecordCopy
  afterWipe : Bool
  deriving DecidableEq, Repr

/-- Region of a wipe (R192), in the order of its codes. -/
inductive Region where
  | presets | programmes | catalogue | all
  deriving DecidableEq, Repr

/-- A wipe in progress: its region and the records whose wipe write has not completed (R194). -/
structure Wipe where
  region : Region
  left : List RecordId
  deriving DecidableEq, Repr

/-- Store. -/
structure Store where
  stored : Stored
  /-- the records whose stored check fails (R188); how a check is worked out is not given, so no check value is held. Log entry
  78. -/
  damaged : List RecordId
  queue : List RecordId
  flight : Option Flight
  isPrepared : Bool
  wipe : Option Wipe
  deriving DecidableEq, Repr

/-! ### Link interface (chapter 11) -/

/-- Results of an answer (R196), in the order of their codes. `barred` is the manual's PROTECTED. -/
inductive Result where
  | ok | accepted | notReady | short | unknown | range | state | busy | absent | full
  | locked | frozen | barred | referenced | sequence
  deriving DecidableEq, Repr

/-- An answer: its result and its data bytes (R195). -/
structure Answer where
  result : Result
  data : List Byte
  deriving DecidableEq, Repr

/-- The answer buffer (R195). -/
inductive Buffer where
  | ready (a : Answer)
  | pending
  deriving DecidableEq, Repr

/-- One entry of the notice set (R197). -/
structure Notice where
  reason : Nat
  detail : Nat
  repeated : Bool
  deriving DecidableEq, Repr

/-- The ten kinds of notice (R197), in mask-bit order. -/
inductive NoticeKind where
  | power | motion | cassette | timer | catalogue | tuner | clock | feed | fault | store
  deriving DecidableEq, Repr

/-- The notice set: at most one entry for each kind (R197). -/
structure NoticeSet where
  power : Option Notice
  motion : Option Notice
  cassette : Option Notice
  timer : Option Notice
  catalogue : Option Notice
  tuner : Option Notice
  clock : Option Notice
  feed : Option Notice
  fault : Option Notice
  store : Option Notice
  deriving DecidableEq, Repr

/-- Link interface. The function-line assignments stand in SETTINGS (R202). -/
structure Link where
  buffer : Buffer
  /-- what the last frame clocked out on MISO (R195) -/
  sent : Option Answer
  notices : NoticeSet
  feed : Bool
  deriving DecidableEq, Repr

/-! ### Reports between blocks -/

/-- A report that one block has for another and that the same step still acts on (the model's own, log entry 5). -/
inductive Task where
  /-- the mechanism controller tells the cue unit that a seek's target was reached (R10) -/
  | seekReached (m : Mode)
  /-- the position unit gives the cue unit a change of P (R65) -/
  | seekMoved
  /-- the catalogue's acceptance of the mark of this title is told to a running seek (R64) -/
  | seekMark (tag slot : Nat)
  /-- the reel watch found a tape end while a seek runs (R67 to R69); the mode the tape moved in -/
  | seekTapeEnd (m : Mode)
  /-- the target title was retired or the identity changed while a TITLE seek runs (R71) -/
  | seekGone
  /-- the mechanism controller tells the timer engine that its target was reached (R10) -/
  | timerReached (m : Mode)
  /-- the mechanism controller tells the timer engine that its target failed (R10) -/
  | timerFailed (r : ProgResult)
  /-- a PLACEMENT seek ended or was aborted without a failure of the transport (R169) -/
  | placementEnded
  /-- the timer engine tidies the transport (R174, step 5) -/
  | tidy
  /-- the timer engine makes the check of R160 -/
  | autoOff
  /-- the mechanism controller compares P with a limit it has just received (R27) -/
  | limit
  deriving DecidableEq, Repr

/-! ### The state -/

/-- The whole machine. -/
structure State where
  /-- levels of the deck inputs -/
  pins : Inputs
  /-- main power is present -/
  mainPower : Bool
  mech : Mech
  pos : Pos
  cue : Cue
  cat : Cat
  tun : Tun
  hold : Hold
  tim : Tim
  lock : Lock
  store : Store
  settings : Settings
  link : Link
  /-- the model's own: reports still to be acted on inside a step; empty between steps. Log entry 5. -/
  agenda : List Task
  /-- the model's own: steps ended, which number the free values of the bits that no layout assigns. Log entry 3. -/
  openCount : Nat
  /-- the model's own: the last command's change of P in REW made memory stop apply, so that a BOT edge which comes next has
  arrived together with that crossing and is taken second (R37). Log entry 73. -/
  crossed : Bool
  /-- the commands that are waiting, first in first out -/
  pending : List Instr
  deriving DecidableEq, Repr

/-- Faults of a step. There is none: every disturbance the manual describes (a FAULT mode, a refused request,
a damaged record) is a state of the machine, and no command leaves the machine without a next state. Safe. -/
inductive Fault where
  deriving DecidableEq, Repr

/-- Refusals of a step. -/
inductive Refusal where
  /-- raised by exec alone, for a command that has no meaning yet; safe: nothing is claimed of it -/
  | notModelled (mnemonic : String)
  deriving DecidableEq, Repr

/-! ### Factory values and reset -/

/-- SETTINGS after manufacture (R188). -/
def Settings.factory : Settings where
  standard := .s625
  lockCode := none
  line1 := .none
  line2 := .none
  extSource := 101
  counterMode := .tape
  autoRewind := false
  recordSpeed := .std
  lastViewed := 1
  aftWindow := 12
  defaultClass := .b
  defaultSound := 0
  nextTag := 1

/-- An EMPTY preset record (R99). -/
def Preset.factory : Preset where
  used := false
  band := .low
  base := 0
  fine := 0
  aft := true
  sound := 0
  skip := false
  locked := false
  name := []

/-- No outcome flags. -/
def OccFlags.clear : OccFlags := ⟨false, false, false⟩

/-- Outcome NONE (R142). -/
def ProgOutcome.clear : ProgOutcome := ⟨.none, .clear, none⟩

/-- An EMPTY programme record (R142). -/
def Programme.factory : Programme where
  state := .empty
  kind := .once
  date := 0
  start := 0
  stop := 0
  source := 1
  speed := .std
  afterLast := false
  target := 0
  lastDay := none
  next := none
  outcome := .clear

/-- The stored copies of a new controller (R188). -/
def Stored.factory : Stored where
  settings := .factory
  presets := List.replicate Config.nPresets .factory
  programmes := List.replicate Config.nProgrammes .factory
  cassettes := List.replicate Config.nCassettes none
  titles := List.replicate Config.nTitles none

/-- An empty notice set. -/
def NoticeSet.empty : NoticeSet := ⟨none, none, none, none, none, none, none, none, none, none⟩

/-- The working tuning of case 3 of R103 with the given default sound system. -/
def Working.unstored (sound : Nat) : Working := ⟨.low, 0, 0, true, sound, 0⟩

/-- Every deck input inactive, the cam at HALT-POS, both function lines high. Log entry 2. -/
def idleInputs : Inputs :=
  ⟨false, false, false, .haltPos, false, false, false, false, false, false, false⟩

/-- The hold domain as R140 initialises it. -/
def Hold.initial : Hold where
  count := 0
  periodSecond := 0
  trim := 0
  secondTrim := 0
  seconds := 0
  day := 0
  dst := false
  valid := false
  staged := .none
  intact := true
  power := .off

/-- The position unit with no load in progress (R32, R33). -/
def Pos.noLoad (memoryStop : Bool) (shown : CounterValue) : Pos where
  place := none
  residue := 0
  zero := none
  pair := none
  takeUpLast := none
  supply := none
  takeUp := none
  wind := none
  memoryStop := memoryStop
  shown := shown

/-- The cue unit at power-up (R53, R56, R59, R60, R71). -/
def Cue.initial : Cue where
  identity := .none
  titlesOpened := false
  writer := .idle
  writePhase := 0
  written := none
  reader := .waiting
  gap := 0
  shortRun := 0
  lastMark := .absent
  seek := none

/-- The mechanism controller in EMPTY with the power-up values of R30 for the given record speed setting. -/
def Mech.initial (speed : Speed) : Mech where
  mode := .empty
  target := none
  outcome := .none
  faultReason := none
  stuck := false
  faultEject := false
  tab := false
  dewLock := false
  cause := .none
  recSpeed := speed
  detected := speed
  capstan := speed
  forward := true
  drumCount := 0
  drumLock := false
  inWindow := 0
  outWindow := 0
  unmeasured := false
  capstanLock := false
  noCtl := false
  motionTimer := none
  drumTimer := none
  dewWait := none
  reelWatch := none
  stillTimer := none
  recPauseTimer := none
  readyTimer := none
  ctlTimer := none

/-- The machine right after its first power-up: a new controller (R188) whose hold domain was empty (R140), with no
cassette in the deck (R30). Log entry 2. -/
def State.reset : State where
  pins := idleInputs
  mainPower := true
  mech := .initial .std
  pos := .noLoad false .absent
  cue := .initial
  cat := {
    cassettes := []
    pool := List.replicate Config.nTitles none
    thisLoad := []
    recording := none
    current := none
    poolCursor := 0 }
  tun := {
    presets := List.replicate Config.nPresets .factory
    working := .unstored 0
    source := 0
    owner := .view
    saved := none
    aft := .settling
    aftCount := 0
    scan := none }
  hold := .initial
  tim := {
    programmes := List.replicate Config.nProgrammes .factory
    edit := none
    run := none
    ext := .none
    freeDue := false }
  lock := { state := .none, attempts := 5, hold := none }
  store := {
    stored := .factory
    damaged := []
    queue := []
    flight := none
    isPrepared := false
    wipe := none }
  settings := .factory
  link := {
    buffer := .ready ⟨.ok, []⟩
    sent := none
    notices := { NoticeSet.empty with power := some ⟨0, 0, false⟩, clock := some ⟨5, 0, false⟩ }
    feed := false }
  agenda := []
  openCount := 0
  crossed := false
  pending := []

end Sys2Proof.Machine
end

