-- ==== Sys2Proof/Machine/Ops.lean ====
section
/-! DEFINITION. The operations every block shares: the update of one block, raising a notice, marking a record for
writing, reading the clock and the records of the catalogue. -/

namespace Sys2Proof.Machine

open Sys2Proof

/-- What stands, in this step, in the bits of a place that no layout assigns. Log entry 3. -/
def State.openBits (s : State) (place : Nat) : Byte := Config.openByte s.openCount place

/-- The state with the count moved on that numbers the free bits. Log entry 3. -/
def State.freshOpen (s : State) : State := { s with openCount := s.openCount + 1 }

/-- The state with it noted whether a BOT edge that comes next has arrived together with a memory-stop crossing in REW (R37).
Log entry 73. -/
def State.noteCrossing (b : Bool) (s : State) : State := { s with crossed := b }

/-! ### One block at a time -/

/-- The state with its mechanism controller changed by `f`. -/
def State.onMech (s : State) (f : Mech → Mech) : State := { s with mech := f s.mech }
/-- The state with its position unit changed by `f`. -/
def State.onPos (s : State) (f : Pos → Pos) : State := { s with pos := f s.pos }
/-- The state with its cue unit changed by `f`. -/
def State.onCue (s : State) (f : Cue → Cue) : State := { s with cue := f s.cue }
/-- The state with its catalogue changed by `f`. -/
def State.onCat (s : State) (f : Cat → Cat) : State := { s with cat := f s.cat }
/-- The state with its tuning unit changed by `f`. -/
def State.onTun (s : State) (f : Tun → Tun) : State := { s with tun := f s.tun }
/-- The state with its hold domain changed by `f`. -/
def State.onHold (s : State) (f : Hold → Hold) : State := { s with hold := f s.hold }
/-- The state with its timer engine changed by `f`. -/
def State.onTim (s : State) (f : Tim → Tim) : State := { s with tim := f s.tim }
/-- The state with its lock unit changed by `f`. -/
def State.onLock (s : State) (f : Lock → Lock) : State := { s with lock := f s.lock }
/-- The state with its store changed by `f`. -/
def State.onStore (s : State) (f : Store → Store) : State := { s with store := f s.store }
/-- The state with its link interface changed by `f`. -/
def State.onLink (s : State) (f : Link → Link) : State := { s with link := f s.link }
/-- The state with its input levels changed by `f`. -/
def State.onPins (s : State) (f : Inputs → Inputs) : State := { s with pins := f s.pins }

/-- A report added behind those already waiting in the step, unless the same report waits already. -/
def push (t : Task) (s : State) : State := if s.agenda.contains t then s else { s with agenda := s.agenda ++ [t] }

/-- A condition's branch, or the state unchanged. -/
def when (c : Bool) (f : State → State) (s : State) : State := if c then f s else s

/-! ### Notices (11.3) -/

/-- The entry of one kind. -/
def NoticeSet.get (n : NoticeSet) : NoticeKind → Option Notice
  | .power => n.power
  | .motion => n.motion
  | .cassette => n.cassette
  | .timer => n.timer
  | .catalogue => n.catalogue
  | .tuner => n.tuner
  | .clock => n.clock
  | .feed => n.feed
  | .fault => n.fault
  | .store => n.store

/-- The set with the entry of one kind replaced. -/
def NoticeSet.put (n : NoticeSet) (v : Notice) : NoticeKind → NoticeSet
  | .power => { n with power := some v }
  | .motion => { n with motion := some v }
  | .cassette => { n with cassette := some v }
  | .timer => { n with timer := some v }
  | .catalogue => { n with catalogue := some v }
  | .tuner => { n with tuner := some v }
  | .clock => { n with clock := some v }
  | .feed => { n with feed := some v }
  | .fault => { n with fault := some v }
  | .store => { n with store := some v }

/-- The entry that raising a notice leaves, by R197: a new one; for FEED the gathered change bits; otherwise the new
report with the repeat flag set. -/
def mergeNotice (k : NoticeKind) (old : Option Notice) (reason detail : Nat) : Notice :=
  match old with
  | none => ⟨reason, detail, false⟩
  | some o =>
    match k with
    | .feed => ⟨o.reason ||| reason, o.detail, o.repeated⟩
    | .power | .motion | .cassette | .timer | .catalogue | .tuner | .clock | .fault | .store => ⟨reason, detail, true⟩

/-- Raising a notice (R197). -/
def raise (k : NoticeKind) (reason detail : Nat) (s : State) : State :=
  s.onLink fun l => { l with notices := l.notices.put (mergeNotice k (l.notices.get k) reason detail) k }

/-- The attention line: asserted while the set holds an entry (R197). -/
def attention (s : State) : Bool := s.link.notices != NoticeSet.empty

/-- A change reported for the feed: raised while the feed flag is on, dropped otherwise (R199). -/
def report (bit : Nat) (s : State) : State := when s.link.feed (raise .feed (2 ^ bit) 0) s

/-- POWER reasons (11.8). -/
def powerUpReason : Nat := 0
def warningReason : Nat := 1
def armedReason : Nat := 2
def disarmedReason : Nat := 3
def keyRefusedReason : Nat := 4
def autoOffReason : Nat := 5
def softResetReason : Nat := 6

/-- The code of a motion outcome (11.8). -/
def outcomeCode : MotionOutcome → Nat
  | .none => 0
  | .done => 1
  | .superseded => 2
  | .loadFailed => 3
  | .fault => 4
  | .dew => 5
  | .tapeEnd => 6
  | .autoStop => 7
  | .memoryStop => 8
  | .barred => 9
  | .protectLimit => 10
  | .powerFail => 11
  | .found => 12
  | .approximate => 13
  | .aborted => 14

/-- The code of a programme result (11.8). -/
def resultCode : ProgResult → Nat
  | .none => 0
  | .complete => 1
  | .missed => 2
  | .noCassette => 3
  | .noTab => 4
  | .wrongCassette => 5
  | .barred => 6
  | .tapeEnd => 7
  | .protectLimit => 8
  | .dew => 9
  | .fault => 10
  | .powerFail => 11
  | .aborted => 12

/-- The code of a fault reason (11.8). -/
def faultCode : FaultReason → Nat
  | .timeout => 0
  | .drum => 1
  | .reel => 2
  | .mechanism => 3
  | .power => 4

/-- FAULT notice reasons for dew (11.8). -/
def dewReason : Nat := 4
def dewClearReason : Nat := 5

/-- CASSETTE reasons (11.8). -/
def identifiedReason : Nat := 0
def foreignReason : Nat := 1
def mixedReason : Nat := 2

/-- TIMER reasons (11.8). -/
def missedReason : Nat := 0
def heldReason : Nat := 1
def prerollReason : Nat := 2
def startedReason : Nat := 3
def endedReason : Nat := 4
def extIgnoredReason : Nat := 5
def extStartedReason : Nat := 6
def extEndedReason : Nat := 7

/-- TIMER notice: the slot in bits 4 to 7 and the programme result in bits 0 to 3 of the detail (11.8). -/
def raiseTimer (reason slot : Nat) (r : ProgResult) (s : State) : State :=
  raise .timer reason (slot * 16 + resultCode r) s

/-- CATALOGUE reasons (11.8). -/
def closedReason : Nat := 0
def noCassetteReason : Nat := 1
def noRecordReason : Nat := 2
def rebasedReason : Nat := 3

/-- TUNER reasons (11.8). -/
def aftLimitReason : Nat := 0
def storedReason : Nat := 1
def scanDoneReason : Nat := 2
def scanFullReason : Nat := 3
def scanFoundReason : Nat := 4
def scanStoppedReason : Nat := 5
def scanPreemptedReason : Nat := 6

/-- CLOCK reasons (11.8). -/
def clockSetReason : Nat := 0
def setDroppedReason : Nat := 1
def clockShiftReason : Nat := 2
def rangeEndReason : Nat := 3
def invalidReason : Nat := 4
def holdLostReason : Nat := 5

/-- STORE reasons (11.8). -/
def lostReason : Nat := 0
def wipedReason : Nat := 1

/-- The last motion outcome is set and MOTION is raised with it (R8, R9). -/
def reportMotion (o : MotionOutcome) (s : State) : State :=
  raise .motion (outcomeCode o) 0 (s.onMech fun m => { m with outcome := o })

/-! ### Marking a record for writing (R189) -/

/-- A record marked: added at the end of the queue when it is not in it. -/
def mark (r : RecordId) (s : State) : State :=
  s.onStore fun st => if st.queue.contains r then st else { st with queue := st.queue ++ [r] }

/-- A record placed at the head of the queue: the exception of R189 for a title closed for POWER-FAIL. -/
def markFirst (r : RecordId) (s : State) : State :=
  s.onStore fun st => { st with queue := r :: st.queue.filter (· != r) }

/-- SETTINGS changed and marked. -/
def setSettings (f : Settings → Settings) (s : State) : State :=
  mark .settings { s with settings := f s.settings }

/-! ### Units and times -/

/-- F of the line standard in force (Introduction). -/
def fr (s : State) : Nat := Config.frameRate s.settings.standard

/-- The present minute index: day number × 1440 + minute of day (R129). -/
def Hold.now (h : Hold) : Nat := h.day * 1440 + h.seconds / 60

/-- "now in seconds" (R164). -/
def Hold.nowSeconds (h : Hold) : Nat := h.day * 86400 + h.seconds

/-! ### Modes -/

/-- The threaded modes (1.1). -/
def Mode.threaded : Mode → Bool
  | .ready | .play | .still | .searchFwd | .searchRev | .recording | .recPause => true
  | .empty | .loading | .halted | .threading | .ff | .rew | .unthreading | .ejecting | .fault => false

/-- The motion modes (1.1). -/
def Mode.motion : Mode → Bool
  | .loading | .threading | .unthreading | .ejecting => true
  | .empty | .halted | .ready | .play | .still | .searchFwd | .searchRev | .recording | .recPause
  | .ff | .rew | .fault => false

/-- FF and REW. -/
def Mode.winding : Mode → Bool
  | .ff | .rew => true
  | .empty | .loading | .halted | .threading | .ready | .play | .still | .searchFwd | .searchRev | .recording
  | .recPause | .unthreading | .ejecting | .fault => false

/-- The tape-moving modes (1.1), which are the modes of the reel watch (R20). -/
def Mode.tapeMoving : Mode → Bool
  | .play | .recording | .searchFwd | .searchRev | .ff | .rew => true
  | .empty | .loading | .halted | .threading | .ready | .still | .recPause | .unthreading | .ejecting | .fault => false

/-- The modes in which the tape moves in reverse (1.1). -/
def Mode.reverse : Mode → Bool
  | .searchRev | .rew => true
  | .empty | .loading | .halted | .threading | .ready | .play | .still | .searchFwd | .recording
  | .recPause | .ff | .unthreading | .ejecting | .fault => false

/-- The modes of the reel measurements (R44, R46). -/
def Mode.measuring : Mode → Bool
  | .play | .recording | .searchFwd | .searchRev => true
  | .empty | .loading | .halted | .threading | .ready | .still | .recPause | .ff | .rew | .unthreading
  | .ejecting | .fault => false

/-- The modes in which the reader has the control-track head (R53). -/
def Mode.reading : Mode → Bool
  | .play | .searchFwd | .searchRev => true
  | .empty | .loading | .halted | .threading | .ready | .still | .recording | .recPause | .ff | .rew | .unthreading
  | .ejecting | .fault => false

/-- The four modes in which the deck presents the tape (R40, R186). -/
def Mode.tapeShown : Mode → Bool
  | .play | .still | .searchFwd | .searchRev => true
  | .empty | .loading | .halted | .threading | .ready | .recording | .recPause | .ff | .rew | .unthreading
  | .ejecting | .fault => false

/-- The modes in which the drum is on (R1, R23). -/
def Mode.drumOn (m : Mode) : Bool := m == .threading || m.threaded

/-- REC and REC-PAUSE. -/
def Mode.inRecording : Mode → Bool
  | .recording | .recPause => true
  | .empty | .loading | .halted | .threading | .ready | .play | .still | .searchFwd | .searchRev | .ff | .rew
  | .unthreading | .ejecting | .fault => false

/-! ### Records of the catalogue -/

/-- The live title of a pool record, if it is live. -/
def titleAt (s : State) (i : Nat) : Option Title := (s.cat.pool[i]?).join

/-- The cassette record of a tag. -/
def cassetteOf (s : State) (tag : Nat) : Option Cassette := s.cat.cassettes.find? (·.tag == tag)

/-- A title record changed and marked. -/
def setTitle (i : Nat) (v : Option Title) (s : State) : State :=
  mark (.title i) (s.onCat fun c => { c with pool := listSet c.pool i v })

/-- A live title changed by `f` and marked; a free record stays free. -/
def onTitle (i : Nat) (f : Title → Title) (s : State) : State :=
  match titleAt s i with
  | none => s
  | some t => setTitle i (some (f t)) s

/-- The cassette record of a tag changed by `f` and marked. -/
def onCassette (tag : Nat) (f : Cassette → Cassette) (s : State) : State :=
  match cassetteOf s tag with
  | none => s
  | some c => mark (.cassette c.place)
      (s.onCat fun k => { k with cassettes := k.cassettes.map fun d => if d.tag == tag then f d else d })

/-- The titles of a cassette in list order, each with its pool record number (R75). -/
def titlesOf (s : State) (tag : Nat) : List (Nat × Title) :=
  match cassetteOf s tag with
  | none => []
  | some c => c.titles.filterMap fun i => (titleAt s i).map fun t => (i, t)

/-- The end of a title's span (chapter 4). -/
def Title.stop (t : Title) : Int := t.start + t.length

/-- The span of an anchored title contains a position (chapter 4). -/
def Title.holds (t : Title) (p : Int) : Bool := t.anchored && decide (t.start ≤ p) && decide (p < t.stop)

/-- The tag that the load identity names, if any. -/
def Identity.tag : Identity → Option Nat
  | .none => Option.none
  | .asserted t => some t
  | .read t => some t

/-! ### The position of the present load -/

/-- P, when a load is in progress. -/
def position (s : State) : Option Int := s.pos.place.map (·.p)

/-- P, when it is anchored. -/
def anchoredP (s : State) : Option Int :=
  match s.pos.place with
  | some ⟨p, .exact⟩ => some p
  | some ⟨p, .estimated⟩ => some p
  | some ⟨_, .unanchored⟩ => none
  | none => none

/-- A load is in progress (R32). -/
def loaded (s : State) : Bool := s.pos.place.isSome

/-! ### Presets, programmes and function lines -/

/-- Preset `n`, when `n` is 1 to 99. -/
def presetAt (s : State) (n : Nat) : Option Preset :=
  match n with
  | 0 => none
  | k + 1 => s.tun.presets[k]?

/-- A preset record changed and marked. -/
def setPreset (n : Nat) (v : Preset) (s : State) : State :=
  mark (.preset n) (s.onTun fun t => { t with presets := listSet t.presets (n - 1) v })

/-- The preset of a source code is EMPTY; false for a line input and for source 0. -/
def presetEmpty (s : State) (source : Nat) : Bool :=
  match presetAt s source with
  | some p => !p.used
  | none => false

/-- The source is a preset flagged locked. -/
def presetLocked (s : State) (source : Nat) : Bool :=
  match presetAt s source with
  | some p => p.locked
  | none => false

/-- Programme of a slot. -/
def progAt (s : State) (slot : Nat) : Option Programme := s.tim.programmes[slot]?

/-- A programme record changed and marked (R142). -/
def setProg (slot : Nat) (v : Programme) (s : State) : State :=
  mark (.programme slot) (s.onTim fun t => { t with programmes := listSet t.programmes slot v })

/-- A programme changed by `f` and marked. -/
def onProg (slot : Nat) (f : Programme → Programme) (s : State) : State :=
  match progAt s slot with
  | none => s
  | some p => setProg slot (f p) s

/-- A programme is in PREROLL or RECORDING: the run record is not none (R163). -/
def running (s : State) : Bool := s.tim.run.isSome

/-- A function is assigned to one of the two lines (R203). -/
def lineAssigned (s : State) (f : LineFn) : Bool := s.settings.line1 == f || s.settings.line2 == f

/-- The level of the line of a function, as its edge leaves it (R203). -/
def setLine (f : LineFn) (low : Bool) (s : State) : State :=
  s.onPins fun p => if s.settings.line1 == f then { p with lineLow1 := low } else { p with lineLow2 := low }

/-- A wipe of the region or of ALL is in progress (R193). -/
def wiping (s : State) (r : Region) : Bool :=
  match s.store.wipe with
  | some w => w.region == r || w.region == .all
  | none => false

/-- The lock is open (R181). -/
def unlocked (s : State) : Bool := s.lock.state == .unlocked

end Sys2Proof.Machine
end

