-- ==== Sys2Proof/Machine/TapeOps.lean ====
section
/-! DEFINITION. The position unit's figures (chapter 2): the remaining tape, the counter value, the reel measurements,
the wind start and the wind step. None of these moves the transport. -/

namespace Sys2Proof.Machine

open Sys2Proof

/-- The thickness class in force: that of the cassette named by the identity, else the default class (R47). -/
def classInForce (s : State) : Thickness :=
  match s.cue.identity.tag.bind (cassetteOf s) with
  | some c => c.cls
  | none => s.settings.defaultClass

/-- The row of the table of 2.6 in force. -/
def reelInForce (s : State) : Config.Reel := Config.reel s.settings.standard (classInForce s)

/-- The reported remaining figure (R48): the pair corrected by the tape moved since, else the cassette's total less P
when P is anchored, else unknown. -/
def remaining (s : State) : Option Int :=
  match s.pos.place with
  | none => none
  | some pl =>
    match s.pos.pair with
    | some k => some (clampI 0 Config.maxPos (k.remaining - (pl.p - k.pos)))
    | none =>
      match anchoredP s, (s.cue.identity.tag.bind (cassetteOf s)).bind (·.total) with
      | some p, some t => some (clampI 0 Config.maxPos (t - p))
      | _, _ => none

/-- The current speed: the detected play speed in the threaded play modes, the record speed setting elsewhere (R40). -/
def currentSpeed (s : State) : Speed :=
  if s.mech.mode.tapeShown then s.mech.detected else s.settings.recordSpeed

/-- A length shown as time, floored (R40). -/
def timeOf (s : State) (x : Int) : Int :=
  match currentSpeed s with
  | .std => x / (2 * fr s : Nat)
  | .long => x / (fr s : Nat)

/-- The counter value (R40); absent in every counter mode with no load (R32). -/
def counterValue (s : State) : CounterValue :=
  match position s with
  | none => .absent
  | some p =>
    match s.settings.counterMode with
    | .tape => .seconds (timeOf s p)
    | .zero =>
      match s.pos.zero with
      | some z => .seconds (timeOf s (p - z))
      | none => .absent
    | .remain =>
      match remaining s with
      | some r => .seconds (timeOf s r)
      | none => .unknown

/-- A change of counter is reported to the link interface (R43). This is done wherever a step can change the value and change it
again: at a change of mode, at the beginning of a load, at a change of P or of the identity, before each report that a block has
for another, and at the end of the step. -/
def refreshCounter (s : State) : State :=
  if counterValue s = s.pos.shown then s
  else report 0 (s.onPos fun p => { p with shown := counterValue s })

/-- The limits within which a position is kept (R35). -/
def clampP (q : Quality) (v : Int) : Int :=
  match q with
  | .unanchored => clampI (-Config.maxPos) Config.maxPos v
  | .exact => clampI 0 Config.maxPos v
  | .estimated => clampI 0 Config.maxPos v

/-- A result of a reel measurement is accepted from 1,000 to 20,000 HU (R44, R46). -/
def measureAccepted (steps : Nat) : Bool := decide (1000 ≤ steps) && decide (steps ≤ 20000)

/-- Remaining_HU of an accepted supply result (R47). -/
def remainingOf (r : Config.Reel) (steps : Nat) : Int :=
  clampI 0 Config.maxPos (((r.k * steps ^ 2 / 524288 : Nat) : Int) - r.h2)

/-- A counting step adds 1 to each measurement in progress (R44, R46). -/
def Measure.step (m : Measure) : Measure := { m with steps := m.steps + 1 }

/-- A tach edge: the first starts a measurement, a later one is counted (R44). -/
def measureEdge : Option Measure → Measure
  | none => ⟨0, 0⟩
  | some m => { m with edges := m.edges + 1 }

/-- The circumference at a wind start, in 1/256 HU (R49). -/
def windCircumference (s : State) : Nat :=
  match anchoredP s, s.pos.takeUpLast with
  | some p, _ => 512 * isqrt (((p + (reelInForce s).h2).toNat * 2048) / (reelInForce s).k)
  | none, some t => 32 * t
  | none, none => 92160

/-- A wind start (R49): the measurement pair and both partial counts are discarded and the wind state is set. -/
def windStart (s : State) : State :=
  s.onPos fun p => { p with
    pair := none, supply := none, takeUp := none,
    wind := some ⟨windCircumference s, 0, 0, reelInForce s⟩ }

/-- The partial counts of both reels discarded (R45). -/
def dropCounts (s : State) : State := s.onPos fun p => { p with supply := none, takeUp := none }

/-- What a change of mode does to the position unit: partial counts are discarded (R45); an entry into winding is a wind
start, a change between FF and REW restarts the edge count, leaving winding ends the wind state (R49, R52). -/
def posModeChange (old new : Mode) (s : State) : State :=
  match old.winding, new.winding with
  | false, true => windStart s
  | true, true => dropCounts (s.onPos fun p => { p with wind := p.wind.map fun w => { w with edges := 0 } })
  | true, false => dropCounts (s.onPos fun p => { p with wind := none })
  | false, false => dropCounts s

/-- One FF wind step of the wind state, and the advance it makes (R50). -/
def Wind.ffStep (w : Wind) : Wind × Int :=
  ({ w with a := (w.c + w.a) % 256, c := w.c + w.reel.d, edges := 0 }, ((w.c + w.a) / 256 : Nat))

/-- One REW wind step of the wind state, and the advance it makes (R51). -/
def Wind.rewStep (w : Wind) : Wind × Int :=
  let c := max (w.c - w.reel.d) w.reel.cMin
  ({ w with a := (c + w.a) % 256, c := c, edges := 0 }, -((c + w.a) / 256 : Nat))

end Sys2Proof.Machine
end

