-- ==== Sys2Proof/Machine/CatalogueOps.lean ====
section
/-! DEFINITION. The catalogue (chapter 4) and the load identity (3.3): creating a cassette record, opening, extending,
trimming, retiring and closing titles, the rebase, the current title and the protection limit. -/

namespace Sys2Proof.Machine

open Sys2Proof

/-! ### Order of a title list (R75) -/

/-- A title placed in a list: an anchored one after the anchored titles whose start is not above its own, a relative one
at the end. -/
def placeTitle (i : Nat) (t : Title) : List (Nat × Title) → List (Nat × Title)
  | [] => [(i, t)]
  | (j, u) :: rest =>
    if t.anchored && (!u.anchored || decide (t.start < u.start)) then (i, t) :: (j, u) :: rest
    else (j, u) :: placeTitle i t rest

/-- A list of titles put into the order of R75. -/
def orderTitles (ts : List (Nat × Title)) : List (Nat × Title) :=
  ts.foldl (fun acc x => placeTitle x.1 x.2 acc) []

/-- The title list of a cassette put back into the order of R75. -/
def reorder (tag : Nat) (s : State) : State :=
  let ordered := (orderTitles (titlesOf s tag)).map (·.1)
  match cassetteOf s tag with
  | some c => if c.titles = ordered then s else onCassette tag (fun d => { d with titles := ordered }) s
  | none => s

/-- The lists of all cassettes put back into the order of R75, in tag order: step 4 of R95 gives none. Log entry 75. -/
def reorderAll (s : State) : State := (s.cat.cassettes.map (·.tag)).foldl (fun acc tag => reorder tag acc) s

/-! ### What the catalogue tells other blocks (4.8) -/

/-- The open title, when the recording record names one (R89). -/
def openTitle (s : State) : Option (Nat × Title) :=
  (s.cat.recording.bind (·.title)).bind fun i => (titleAt s i).map fun t => (i, t)

/-- The current title that R98 gives. -/
def currentOf (s : State) : Option Nat :=
  match s.cue.identity.tag, anchoredP s with
  | some tag, some p =>
    match openTitle s with
    | some (i, t) => if t.anchored then some i else ((titlesOf s tag).find? fun x => x.2.holds p).map (·.1)
    | none => ((titlesOf s tag).find? fun x => x.2.holds p).map (·.1)
  | _, _ => none

/-- The mark hold is seen (R187). -/
def seeHold (s : State) : State := s.onLock fun l => { l with hold := l.hold.map fun h => { h with seen := true } }

/-- The current title worked out afresh; a change is told to the lock unit, which sets the seen flag of the mark hold
when a title becomes current, and to the link interface (R98, R187). Log entry 62 says where. -/
def refreshTitle (s : State) : State :=
  if currentOf s = s.cat.current then s
  else
    let s' := report 3 (s.onCat fun c => { c with current := currentOf s })
    when (currentOf s).isSome seeHold s'

/-- The first live anchored PROTECTED title of a cassette, in list order, that starts at or above a position, less 4F HU:
the protection limit (R97) and the limit of the fit (R171). -/
def limitFrom (s : State) (tag : Nat) (ref : Int) : Option Int :=
  ((titlesOf s tag).find? fun x => x.2.anchored && x.2.isProtected && decide (ref ≤ x.2.start)).map
    fun x => x.2.start - 4 * fr s

/-- The protection limit (R97): present while a recording record is held, the identity names a cassette and P is
anchored. -/
def protectionLimit (s : State) : Option Int :=
  match s.cat.recording, s.cue.identity.tag, anchoredP s with
  | some r, some tag, some _ => limitFrom s tag r.ref
  | _, _, _ => none

/-! ### Identity (3.3) -/

/-- The load identity changed (R60): the last-loaded time is set when the identity comes to name a cassette (R72), and a
running TITLE seek is told of a change that names another cassette or none (R71). The current title and the counter value, which
the total of the cassette can change, are worked out afresh (R98, R48, R43). -/
def setIdentity (new : Identity) (s : State) : State :=
  let old := s.cue.identity
  let s := s.onCue fun c => { c with identity := new }
  if old.tag = new.tag then s
  else
    let s := match new.tag with
      | some t => onCassette t (fun c => { c with lastLoaded := s.hold.now }) s
      | none => s
    push .seekGone (refreshCounter (refreshTitle s))

/-- The search for a tag that no cassette record holds, from a tag upward and from 1023 back to 1 (R73). -/
def freshTag (held : List Nat) : Nat → Nat → Nat
  | 0, t => t
  | n + 1, t => if held.contains t then freshTag held n (if 1023 ≤ t then 1 else t + 1) else t

/-- A cassette record placed in tag order (R72). -/
def insertCassette (c : Cassette) : List Cassette → List Cassette
  | [] => [c]
  | d :: rest => if c.tag < d.tag then c :: d :: rest else d :: insertCassette c rest

/-- The lowest store place that keeps no cassette record. Log entry 8. -/
def freePlace (cs : List Cassette) : Nat :=
  ((List.range Config.nCassettes).find? fun p => !cs.any fun c => c.place == p).getD 0

/-- A cassette record created (R73), the identity becoming ASSERTED(new tag). -/
def createCassette (s : State) : State :=
  let tag := freshTag (s.cat.cassettes.map (·.tag)) Config.nCassettes s.settings.nextTag
  let place := freePlace s.cat.cassettes
  let c : Cassette := ⟨tag, [], s.settings.defaultClass, none, s.hold.now, s.hold.now, [], [], place⟩
  let s := setSettings (fun k => { k with nextTag := if tag = 1023 then 1 else tag + 1 }) s
  let s := mark (.cassette place) (s.onCat fun k => { k with cassettes := insertCassette c k.cassettes })
  setIdentity (.asserted tag) s

/-! ### Retiring (R77) -/

/-- A dead-mark entry added at the end, the oldest of eight dropped first (R77). -/
def addDead (e : DeadMark) (ds : List DeadMark) : List DeadMark :=
  (if Config.nDead ≤ ds.length then ds.drop 1 else ds) ++ [e]

/-- A title retired by R77, its mark surviving on tape or not. The current title is worked out afresh at once (step 5), so that
a title opened in the same pool record is another title. -/
def retireTitle (survives : Bool) (i : Nat) (s : State) : State :=
  match titleAt s i with
  | none => s
  | some t =>
    let dead := match t.slot with
      | some k => if survives && !t.noCue then [DeadMark.mk k (if t.anchored then some t.start else none)] else []
      | none => []
    let s := onCassette t.tag
      (fun c => { c with titles := c.titles.filter (· != i), dead := dead.foldl (fun ds e => addDead e ds) c.dead }) s
    let s := s.onCat fun c => { c with
      thisLoad := c.thisLoad.filter (· != i)
      recording := c.recording.map fun r => { r with title := if r.title = some i then none else r.title } }
    let s := refreshTitle (setTitle i none s)
    let isTarget := match s.cue.seek, t.slot with
      | some ⟨.title tag slot, _⟩, some k => tag == t.tag && slot == k
      | _, _ => false
    push .limit (when isTarget (push .seekGone) s)

/-- A title retired when its length has fallen below 4F HU (R88, R91, R93). -/
def retireIfShort (survives : Bool) (i : Nat) (s : State) : State :=
  match titleAt s i with
  | some t => if t.length < 4 * fr s then retireTitle survives i s else s
  | none => s

/-! ### Trimming (R88, R91, R93) -/

/-- The title keeps its front, up to `a` (R88, R93 first case); speed and switch offset stand as they are. Log entry 54. -/
def Title.cutAt (a : Int) (t : Title) : Title := { t with length := (a - t.start).toNat, trimmed := true }

/-- The title loses its front, up to `b` (R91, R93 second case); speed and switch offset stand as they are. Log entry 54. -/
def Title.trimTo (b : Int) (t : Title) : Title :=
  { t with start := b, length := (t.stop - b).toNat, trimmed := true, noCue := true }

/-- Dead-mark entries of a cassette whose position lies from `a` up to `b` removed (R91, R93). -/
def clearDead (tag : Nat) (a b : Int) (s : State) : State :=
  let inside (e : DeadMark) : Bool := match e.pos with
    | some p => decide (a ≤ p) && decide (p < b)
    | none => false
  match cassetteOf s tag with
  | some c => if c.dead.any inside then onCassette tag (fun d => { d with dead := d.dead.filter fun e => !inside e }) s else s
  | none => s

/-- A newer span from `a` to `b` trims the older title of pool record `i` (R93), if they overlap. The dead marks inside the span are
removed with such a trim alone: those of a newer title that overlaps no older one stay. Log entry 58. -/
def trimOlder (tag : Nat) (a b : Int) (i : Nat) (s : State) : State :=
  match titleAt s i with
  | none => s
  | some t =>
    if t.start < b ∧ a < t.stop then
      clearDead tag a b <|
        if t.start < a then retireIfShort true i (onTitle i (Title.cutAt a) s)
        else retireIfShort false i (onTitle i (Title.trimTo b) s)
    else s

/-- The start test finds P inside a title (R88): that title. -/
def startOn (s : State) : Option (Nat × Title) :=
  match s.cue.identity.tag, anchoredP s with
  | some tag, some p => (titlesOf s tag).find? fun x => x.2.holds p
  | _, _ => none

/-- The start test refuses the start: P lies inside a PROTECTED title (R88). -/
def startRefused (s : State) : Bool :=
  match startOn s with
  | some (_, t) => t.isProtected
  | none => false

/-- The start test cuts the title that contains P (R88); a protected one is left, since the start is refused. -/
def startCut (s : State) : State :=
  match startOn s, anchoredP s with
  | some (i, t), some p =>
    if t.isProtected then s
    else retireIfShort (decide (t.start < p)) i (onTitle i (Title.cutAt p) s)
  | _, _ => s

/-! ### Opening and closing (R89, R92) -/

/-- The lowest slot that no live title of the cassette holds and no dead-mark entry names (R76). -/
def freeSlot (s : State) (tag : Nat) : Option Nat :=
  let held := (titlesOf s tag).filterMap (·.2.slot)
  let dead := ((cassetteOf s tag).map fun c => c.dead.map (·.slot)).getD []
  ((List.range Config.nSlots).map (· + 1)).find? fun k => !held.contains k && !dead.contains k

/-- A free pool record, the search for it beginning at the model's own cursor. Log entry 4. -/
def freeRecord (c : Cat) : Option Nat :=
  (findFrom Option.isNone (c.pool.drop c.poolCursor) c.poolCursor).or (findFrom Option.isNone c.pool 0)

/-- The mark being written is cut: the writer is IDLE and its title is flagged NO-CUE (R55, R90). -/
def cutMark (s : State) : State :=
  match s.cue.writer with
  | .idle => s
  | .writing tag slot _ =>
    let s := s.onCue fun c => { c with writer := .idle }
    match (titlesOf s tag).find? fun x => x.2.slot == some slot with
    | some (i, _) => onTitle i (fun t => { t with noCue := true }) s
    | none => s

/-- The writer enters WRITING for a new mark, one being written is cut (R54, R55). -/
def askMark (tag slot : Nat) (s : State) : State := (cutMark s).onCue fun c => { c with writer := .writing tag slot 1 }

/-- The origin of a title that a record cause gives (R26). -/
def originOf : Cause → Origin
  | .none => .manual
  | .manual => .manual
  | .programme n => .programme n
  | .external => .external

/-- The recording record is held (R89) and the protection limit goes to the mechanism controller. -/
def holdRecording (title : Option Nat) (s : State) : State :=
  push .limit (s.onCat fun c => { c with
    recording := some ⟨(position s).getD 0, (anchoredP s).isSome, title, s.cue.identity.tag⟩ })

/-- The new title of step 3 of R89. -/
def newTitle (s : State) (tag : Nat) (cause : Cause) (source : Nat) : Title where
  tag := tag
  slot := freeSlot s tag
  anchored := (anchoredP s).isSome
  start := (position s).getD 0
  length := 0
  speed := match s.mech.recSpeed with
    | .std => .std
    | .long => .long
  switchAt := none
  source := source
  recordedAt := s.hold.now
  origin := originOf cause
  isOpen := true
  isProtected := false
  locked := presetLocked s source
  incomplete := false
  noCue := (freeSlot s tag).isNone
  trimmed := false
  name := []

/-- Steps 3 to 5 of R89 with a free record. A mark that the new title's mark cuts (R55) is reported for its own title, before
the new title can take a slot that one has given up. The new title is current at once when it is anchored (R98). -/
def fillTitle (tag i : Nat) (cause : Cause) (source : Nat) (s : State) : State :=
  let s := when (freeSlot s tag).isSome cutMark s
  let t := newTitle s tag cause source
  let order := (placeTitle i t (titlesOf s tag)).map (·.1)
  let s := setTitle i (some t) s
  let s := onCassette tag (fun c => { c with titles := order }) s
  let s := s.onCat fun c => { c with thisLoad := c.thisLoad ++ [i] }
  let s := s.onCue fun c => { c with titlesOpened := true }
  let s := match t.slot with
    | some k => askMark tag k s
    | none => s
  refreshTitle (holdRecording (some i) s)

/-- A title opened by R89, after the start test has let the start go ahead. An automatic registration raises CASSETTE with
reason IDENTIFIED (R60, R62). -/
def openFor (cause : Cause) (source : Nat) (s : State) : State :=
  let s := if s.cue.identity.tag.isNone && decide (s.cat.cassettes.length < Config.nCassettes) then
      raise .cassette identifiedReason 0 (createCassette s)
    else s
  match s.cue.identity.tag with
  | none => holdRecording none (raise .catalogue noCassetteReason 0 s)
  | some tag =>
    match decide ((titlesOf s tag).length < Config.nSlots), freeRecord s.cat with
    | true, some i => fillTitle tag i cause source s
    | _, _ => holdRecording none (raise .catalogue noRecordReason 0 s)

/-- How a recording is closed (R92). -/
inductive Closing where
  | complete | incomplete | powerFail
  deriving DecidableEq, Repr

/-- The recording closed (R92): the open title is CLOSED, INCOMPLETE for POWER-FAIL and at a soft reset, its write first in
the queue for POWER-FAIL; the recording record is discarded, and with it the protection limit. -/
def closeRecording (how : Closing) (s : State) : State :=
  match openTitle s with
  | some (i, _) =>
    let s := onTitle i (fun t => { t with isOpen := false, incomplete := t.incomplete || how != .complete }) s
    let s := when (how == .powerFail) (markFirst (.title i)) s
    raise .catalogue closedReason 0 (s.onCat fun c => { c with recording := none })
  | none => s.onCat fun c => { c with recording := none }

/-- A change of recording speed seen by the open title (R90). -/
def Title.switchSpeed (v : Speed) (t : Title) : Title :=
  match t.speed, v with
  | .std, .long => if t.length = 0 then { t with speed := .long } else { t with speed := .mixed, switchAt := some t.length }
  | _, _ => t

/-- The recording speed changed, the open title following (R15, R90). -/
def setRecSpeed (v : Speed) (s : State) : State :=
  let s := s.onMech fun m => { m with recSpeed := v }
  match openTitle s with
  | some (i, t) => if t.switchSpeed v = t then s else onTitle i (Title.switchSpeed v) s
  | none => s

/-! ### A forward counting step in REC (R90, R91) -/

/-- The open title is extended by 1 HU (R90), a relative one also beyond the 1,048,575 of R74. Log entry 64. -/
def extendTitle (s : State) : State :=
  match openTitle s with
  | some (i, _) => onTitle i (fun t => { t with length := t.length + 1 }) s
  | none => s

/-- What the new tape covers is trimmed (R91), `b` being the new P, several titles in list order: the rule gives none. Log entry
75. -/
def trimCovered (b : Int) (s : State) : State :=
  match s.cat.recording with
  | some ⟨ref, true, own, some tag⟩ =>
    let covered := (titlesOf s tag).filter fun x =>
      x.2.anchored && some x.1 != own && decide (ref ≤ x.2.start) && decide (x.2.start < b)
    clearDead tag ref b <| covered.foldl (fun acc x => retireIfShort false x.1 (onTitle x.1 (Title.trimTo b) acc)) s
  | _ => s

/-! ### Rebase (4.7) -/

/-- A relative title moved by the offset of an anchor (R95, step 1), and whether its start was cut; the switch offset stands as it
is (log entry 54). -/
def Title.rebased (delta : Int) (t : Title) : Title × Bool :=
  let v := t.start + delta
  if v < 0 then ({ t with anchored := true, start := 0, length := (t.length + v).toNat }, true)
  else if Config.maxPos < v then ({ t with anchored := true, start := Config.maxPos, length := 0 }, true)
  else ({ t with anchored := true, start := v, length := (min (t.length : Int) (Config.maxPos - v)).toNat }, false)

/-- The relative titles on the this-load list, in the order they were opened. -/
def relativeTitles (s : State) : List (Nat × Title) :=
  s.cat.thisLoad.filterMap fun i => (titleAt s i).bind fun t => if t.anchored then none else some (i, t)

/-- Step 1 of R95. -/
def rebaseMove (delta : Int) (ts : List (Nat × Title)) (s : State) : State :=
  let s := ts.foldl (fun acc x => setTitle x.1 (some (x.2.rebased delta).1) acc) s
  s.onCat fun c => { c with recording := c.recording.map fun r =>
    if r.anchored then r else { r with ref := clampI 0 Config.maxPos (r.ref + delta), anchored := true } }

/-- Step 2 of R95. -/
def rebaseShort (delta : Int) (ts : List (Nat × Title)) (s : State) : State :=
  ts.foldl (fun acc x => retireIfShort (!(x.2.rebased delta).2) x.1 acc) s

/-- The titles older than the title of pool record `i`: those off the this-load list and those opened before it (R94). -/
def olderThan (s : State) (i : Nat) (u : Nat) : Bool :=
  u != i && (!s.cat.thisLoad.contains u || (s.cat.thisLoad.takeWhile (· != i)).contains u)

/-- A rebased title trims the older titles it overlaps (R95, step 3), several of them in list order: the rule gives none. Log
entry 75. -/
def rebaseTrim (i : Nat) (s : State) : State :=
  match titleAt s i with
  | none => s
  | some n =>
    let b := if n.isOpen then (position s).getD n.stop else n.stop
    let older := (titlesOf s n.tag).filter fun x => x.2.anchored && olderThan s i x.1
    older.foldl (fun acc x => trimOlder n.tag n.start b x.1 acc) s

/-- A recording that step 1 moved and that is uncatalogued, step 2 having retired its title or none having been opened, trims
last, as the newest (R95, step 3), the titles in list order. Log entry 75. -/
def rebaseUncatalogued (wasRelative : Bool) (s : State) : State :=
  match wasRelative, s.cat.recording with
  | true, some ⟨ref, _, none, some tag⟩ =>
    let p := (position s).getD ref
    ((titlesOf s tag).filter fun x => x.2.anchored).foldl (fun acc x => trimOlder tag ref p x.1 acc) s
  | _, _ => s

/-- The rebase (R95). REBASED is raised for every change of a title, its basis alone among them. Log entry 63. -/
def rebase (delta : Int) (s : State) : State :=
  let ts := relativeTitles s
  let wasRelative := match s.cat.recording with
    | some r => !r.anchored
    | none => false
  let s1 := rebaseShort delta ts (rebaseMove delta ts s)
  let s2 := rebaseUncatalogued wasRelative (ts.foldl (fun acc x => rebaseTrim x.1 acc) s1)
  let s3 := reorderAll s2
  when (s3.cat.pool != s.cat.pool) (raise .catalogue rebasedReason 0) (push .limit s3)

/-- A measurement pair offered to the catalogue sets the cassette's total length (R96). -/
def offerTotal (found : Int) (s : State) : State :=
  match s.cue.identity.tag, anchoredP s with
  | some tag, some p => onCassette tag (fun c => { c with total := some (min Config.maxPos (p + found)).toNat }) s
  | _, _ => s

end Sys2Proof.Machine
end

