-- ==== Sys2Proof/Machine/TunerOps.lean ====
section
/-! DEFINITION. The tuning unit (chapters 5 and 6): the working tuning and its word, the current source, AFT, the tuner
owner, and the station search. -/

namespace Sys2Proof.Machine

open Sys2Proof

/-! ### Working tuning and source -/

/-- The word given to the tuning converter (R101). -/
def Working.word (w : Working) : Int := clampI 0 Config.maxWord (w.base + 2 * w.fine + w.offset)

/-- A preset's word: its base word plus 2 × fine, clamped (R124). -/
def Preset.word (p : Preset) : Int := clampI 0 Config.maxWord (p.base + 2 * p.fine)

/-- A preset copied into the working tuning, the offset 0 (R101). -/
def Preset.working (p : Preset) : Working := ⟨p.band, p.base, p.fine, p.aft, p.sound, 0⟩

/-- A line input's source code (Introduction, "Sources"). -/
def isLine (source : Nat) : Bool := source == 101 || source == 102

/-- A preset's source code. -/
def isPreset (source : Nat) : Bool := decide (1 ≤ source) && decide (source ≤ 99)

/-- A source code that may be given as a parameter: 1 to 99, 101 or 102. -/
def isSource (source : Nat) : Bool := isPreset source || isLine source

/-- The current source set, a change of it reported (R103). -/
def setSource (n : Nat) (s : State) : State :=
  if s.tun.source = n then s else report 2 (s.onTun fun t => { t with source := n })

/-- The AFT state set, a change of it reported (R103). -/
def setAft (a : AftState) (s : State) : State :=
  if s.tun.aft = a then s else report 2 (s.onTun fun t => { t with aft := a })

/-- The working tuning changed by `f`. -/
def onWorking (f : Working → Working) (s : State) : State := s.onTun fun t => { t with working := f t.working }

/-- AFT runs (R111). -/
def aftRuns (t : Tun) : Bool := !isLine t.source && t.working.aft && t.owner != .scan

/-- AFT started or stopped at a change of tuning (R111): SETTLING with offset and count 0 when it may run; OFF otherwise,
the offset 0 with the enable off and held with a line input. -/
def startAft (s : State) : State :=
  let s := s.onTun fun t => { t with aftCount := 0 }
  if isLine s.tun.source then setAft .off s
  else
    let s := onWorking (fun w => { w with offset := 0 }) s
    setAft (if s.tun.working.aft then .settling else .off) s

/-- AFT taken up again where a search leaves the tuner as it stands: SETTLING with the offset kept, or OFF (R127).
Log entry 14. -/
def resumeAft (s : State) : State :=
  let s := s.onTun fun t => { t with aftCount := 0 }
  setAft (if aftRuns s.tun then .settling else .off) s

/-- Steps 1 to 4 of R104: a source becomes current, a preset is copied, a line input leaves the working tuning with the
offset 0, and the AFT state is set. -/
def tuneTo (n : Nat) (s : State) : State :=
  let s := setSource n s
  startAft <| match presetAt s n with
    | some p => onWorking (fun _ => p.working) s
    | none => onWorking (fun w => { w with offset := 0 }) s

/-- The current preset's record has changed from `old` (R101): the working tuning follows, and a change of band, base word
or AFT enable restarts AFT with the offset 0. -/
def followPreset (n : Nat) (old new : Preset) (s : State) : State :=
  if s.tun.source = n then
    let s := onWorking (fun w => { new.working with offset := w.offset }) s
    if old.band = new.band ∧ old.base = new.base ∧ old.aft = new.aft then s else startAft s
  else s

/-- A preset record written by a request of chapter 5, marked and followed. -/
def changePreset (n : Nat) (new : Preset) (s : State) : State :=
  match presetAt s n with
  | some old => followPreset n old new (setPreset n new s)
  | none => s

/-! ### Ownership -/

/-- An owner other than VIEW takes the tuner; from VIEW the current source is saved (R115). -/
def takeTuner (o : TunerOwner) (s : State) : State :=
  s.onTun fun t => { t with owner := o, saved := if t.owner = .view then some t.source else t.saved }

/-- The tuner is given back to VIEW (R117): the saved source is tuned unless it is absent or an EMPTY preset. A saved source of 0,
unstored tuning, becomes the current source again over the working tuning as it stands, with AFT started afresh. Log entry 59. -/
def giveBack (s : State) : State :=
  let saved := s.tun.saved
  let s := s.onTun fun t => { t with owner := .view, saved := none }
  match saved with
  | some n => if presetEmpty s n then s else tuneTo n s
  | none => s

/-- A release from one owner, disregarded when another owns the tuner (R117). -/
def releaseFrom (o : TunerOwner) (s : State) : State := if s.tun.owner = o then giveBack s else s

/-! ### Station search -/

/-- The reason code of a search's outcome, and what its ending does (R127). -/
inductive ScanEnd where
  | done | full | found | stopped | preempted | preemptedByClaim
  deriving DecidableEq, Repr

/-- TUNER reason of a search's outcome (11.8). -/
def ScanEnd.reason : ScanEnd → Nat
  | .done => scanDoneReason
  | .full => scanFullReason
  | .found => scanFoundReason
  | .stopped => scanStoppedReason
  | .preempted => scanPreemptedReason
  | .preemptedByClaim => scanPreemptedReason

/-- The tuner at the end of a search, apart from an ending by timer claim: it is given back, and where nothing is tuned
AFT goes on, with its count and state kept after FOUND (R123, R127). -/
def scanGiveBack (e : ScanEnd) (s : State) : State :=
  let tuned := match s.tun.saved with
    | some n => !presetEmpty s n
    | none => false
  when (!tuned && e != .found) resumeAft (giveBack s)

/-- A TUNER notice that reports no preset stored; 11.8 gives its detail no meaning, so it is open. Log entry 3. -/
def tunerNotice (reason : Nat) (s : State) : State := raise .tuner reason (s.openBits 0).toNat s

/-- A search ends (R127). -/
def endScan (e : ScanEnd) (s : State) : State :=
  match s.tun.scan with
  | none => s
  | some sc =>
    let s := when (e != .found && e != .preemptedByClaim) (onWorking fun _ => sc.start) s
    let s := s.onTun fun t => { t with saved := if t.saved = some 0 then none else t.saved, scan := none }
    let s := when (e != .preemptedByClaim) (scanGiveBack e) s
    tunerNotice e.reason s

/-- A running search ends, none changes nothing (R125). -/
def stopScan (s : State) : State := endScan .stopped s

/-- The timer engine claims the tuner with a source (R116). -/
def claimTuner (source : Nat) (s : State) : State :=
  if s.tun.owner = .timer ∧ s.tun.source = source then s
  else
    let scanning := s.tun.owner == .scan
    let s := endScan .preemptedByClaim s
    let s := takeTuner .timer s
    if presetEmpty s source then when scanning resumeAft s
    else tuneTo source s

/-- The working tuning driven from the search record (R119). -/
def driveScan (offset : Int) (sc : Scan) (s : State) : State :=
  onWorking (fun _ => ⟨sc.band, sc.word, 0, true, s.settings.defaultSound, offset⟩)
    (s.onTun fun t => { t with scan := some sc })

/-- The search stands in SWEEP on a word: AFT state OFF, offset 0 (R119). -/
def sweepAt (sc : Scan) (s : State) : State :=
  setAft .off (driveScan 0 { sc with phase := .sweep } (s.onTun fun t => { t with aftCount := 0 }))

/-- The sweep goes to a word of its band, or beyond 16,383 to the next band at word 0 with the clearing flag clear; from
UHF the search ends DONE (R121). -/
def sweepTo (word : Nat) (sc : Scan) (s : State) : State :=
  if word ≤ 16383 then sweepAt { sc with word := word } s
  else
    match sc.band with
    | .low => sweepAt { sc with band := .high, word := 0, clearing := false } s
    | .high => sweepAt { sc with band := .uhf, word := 0, clearing := false } s
    | .uhf => endScan .done s

/-- A taken SCAN (R120, steps 1 to 5). -/
def startScan (mode : ScanMode) (first : Nat) (s : State) : State :=
  let start := s.tun.working
  let s := setSource 0 (takeTuner .scan s)
  match mode with
  | .store => sweepAt ⟨.store, first, .sweep, .low, 0, false, start⟩ s
  | .next =>
    let sc : Scan := ⟨.next, first, .sweep, start.band, 0, true, start⟩
    sweepTo (start.word.toNat + 8) sc (s.onTun fun t => { t with scan := some sc })

/-- A capture begins at the present sweep word (R122). -/
def beginCapture (sc : Scan) (s : State) : State :=
  setAft .settling (driveScan 0 { sc with phase := .capture sc.word 0 } (s.onTun fun t => { t with aftCount := 0 }))

/-! ### AFT samples -/

/-- What a sample leaves: AFT state, in-window count and offset. -/
structure Judged where
  aft : AftState
  count : Nat
  offset : Int
  deriving DecidableEq, Repr

/-- A sample outside the window moves the offset by one word, held at the clamp with the state LIMIT (R112, R113). -/
def judgeMove (lim offset delta : Int) : Judged :=
  if offset + delta ≤ -lim ∨ lim ≤ offset + delta then ⟨.limit, 0, clampI (-lim) lim (offset + delta)⟩
  else ⟨.settling, 0, offset + delta⟩

/-- A sample judged (R112, R113) with the clamp of the offset at ±`lim`. -/
def judge (lim : Int) (w : Nat) (sync : Bool) (d : Nat) (j : Judged) : Judged :=
  if !sync then ⟨.noSignal, 0, j.offset⟩
  else if 128 + w < d then judgeMove lim j.offset (-1)
  else if d + w < 128 then judgeMove lim j.offset 1
  else
    let count := min 8 (j.count + 1)
    ⟨if count = 8 then .locked else if j.aft = .noSignal then .settling else j.aft, count, j.offset⟩

/-- The tuner's present AFT figures. -/
def judgedNow (t : Tun) : Judged := ⟨t.aft, t.aftCount, t.working.offset⟩

/-- The figures a sample leaves are taken. -/
def takeJudged (j : Judged) (s : State) : State :=
  setAft j.aft (s.onTun fun t => { t with aftCount := j.count, working := { t.working with offset := j.offset } })

/-- A sample while AFT runs; becoming LIMIT raises TUNER with reason AFT-LIMIT (R112, R113). -/
def sampleAft (sync : Bool) (d : Nat) (s : State) : State :=
  let j := judge 96 s.settings.aftWindow sync d (judgedNow s.tun)
  when (j.aft == .limit && s.tun.aft != .limit) (tunerNotice aftLimitReason) (takeJudged j s)

/-- The lowest preset number from `first` whose record is EMPTY (R120, R124). -/
def emptyPresetFrom (first : Nat) (presets : List Preset) : Option Nat :=
  findFrom (fun p => !p.used) (presets.drop (first - 1)) first

/-- Some USED preset of the band has a word within 24 of the candidate (R124). -/
def duplicate (band : Band) (w : Int) (presets : List Preset) : Bool :=
  presets.any fun p => p.used && p.band == band && decide (apart p.word w ≤ 24)

/-- A found candidate of a STORE search (R124). -/
def storeCandidate (sc : Scan) (start : Nat) (w : Nat) (s : State) : State :=
  let resume := sweepTo (max start w + 8) { sc with clearing := true }
  if duplicate sc.band w s.tun.presets then resume s
  else
    match emptyPresetFrom sc.first s.tun.presets with
    | some n =>
      resume (raise .tuner storedReason n
        (setPreset n ⟨true, sc.band, w, 0, true, s.settings.defaultSound, false, false, []⟩ s))
    | none => endScan .full s

/-- A found candidate of a NEXT search (R123). -/
def nextFound (sc : Scan) (w : Nat) (s : State) : State :=
  endScan .found (s.onTun fun t =>
    { t with working := ⟨sc.band, w, 0, true, s.settings.defaultSound, 0⟩, saved := none })

/-- A capture that fails: the sweep goes on 8 words above the capture start, clearing (R122). -/
def captureFails (sc : Scan) (start : Nat) (s : State) : State := sweepTo (start + 8) { sc with clearing := true } s

/-- One 20 ms event in CAPTURE (R122). The candidate word is the word that the converter holds, which is kept within 0 to 16,383.
Log entry 60. -/
def captureSample (sync : Bool) (d : Nat) (sc : Scan) (start samples : Nat) (s : State) : State :=
  let j := judge 64 s.settings.aftWindow sync d (judgedNow s.tun)
  let s := takeJudged j (s.onTun fun t => { t with scan := some { sc with phase := .capture start (samples + 1) } })
  match j.aft with
  | .locked =>
    let w := s.tun.working.word.toNat
    match sc.mode with
    | .next => nextFound sc w s
    | .store => storeCandidate sc start w s
  | .limit => captureFails sc start s
  | .off | .settling | .noSignal => if 64 ≤ samples + 1 then captureFails sc start s else s

/-- One 20 ms event in SWEEP (R121). -/
def sweepStep (sync : Bool) (sc : Scan) (s : State) : State :=
  match sc.clearing, sync with
  | false, true => beginCapture sc s
  | false, false => sweepTo (sc.word + 8) sc s
  | true, true => sweepTo (sc.word + 8) sc s
  | true, false => sweepTo (sc.word + 8) { sc with clearing := false } s

/-! ### Power-up and soft reset -/

/-- The lowest-numbered USED preset with skip off (R103). -/
def firstUsable (presets : List Preset) : Option Nat := findFrom (fun p => p.used && !p.skip) presets 1

/-- R103: the owner becomes VIEW, any search is none, and the current source is chosen. -/
def chooseSource (s : State) : State :=
  let s := s.onTun fun t =>
    { t with owner := .view, saved := none, scan := none, working := .unstored s.settings.defaultSound }
  let last := s.settings.lastViewed
  let lastUsable := isLine last || (isPreset last && !presetEmpty s last)
  tuneTo (if lastUsable then last else (firstUsable s.tun.presets).getD 0) s

/-! ### Outputs (R102) -/

/-- The input selector. -/
inductive Selector where
  | tuner | line1 | line2
  deriving DecidableEq, Repr

/-- The outputs of the tuning unit: band, the two sound-select lines, the selector and the converter's word. -/
structure TunerOutputs where
  band : Band
  soundUpper : Bool
  soundLower : Bool
  selector : Selector
  word : Int
  deriving DecidableEq, Repr

/-- The outputs that the working tuning and the current source give (R101, R102). -/
def tunerOutputs (t : Tun) : TunerOutputs where
  band := t.working.band
  soundUpper := t.working.sound / 2 % 2 == 1
  soundLower := t.working.sound % 2 == 1
  selector := if t.source = 101 then .line1 else if t.source = 102 then .line2 else .tuner
  word := t.working.word

end Sys2Proof.Machine
end

