-- ==== Sys2Proof/Machine/EngineOps.lean ====
section
/-! DEFINITION. The timer engine's own records (chapters 8 and 9): occurrences, missing and ending them, the free
transport, the preroll lead and the fit. None of these moves the transport. -/

namespace Sys2Proof.Machine

open Sys2Proof

/-! ### Occurrences (8.2) -/

/-- The run of a programme on day `d` (R145). -/
def Programme.runOn (p : Programme) (d : Nat) : Occurrence :=
  ⟨d * 1440 + p.start, d * 1440 + p.start + (p.stop + 1440 - p.start) % 1440⟩

/-- Day `d` fits the kind of the programme (R145, condition 5). -/
def Programme.fitsKind (p : Programme) (d : Nat) : Bool :=
  match p.kind with
  | .once => d == p.date
  | .daily => true
  | .weekdays => decide (d % 7 ≤ 4)
  | .weekly => d % 7 == p.date % 7

/-- Day `d` meets the five conditions of R145. -/
def Programme.fitsDay (p : Programme) (today now d : Nat) : Bool :=
  decide (d ≤ Config.lastDay)
    && (match p.lastDay with
        | some l => decide (l < d)
        | none => true)
    && decide (today ≤ d + 1) && decide (now < (p.runOn d).stop) && p.fitsKind d

/-- The days tried for a programme, in order: its date for ONCE; otherwise ten days from the first that conditions 2 and 3
allow, among which the earliest day that meets all five lies, if any day does. -/
def Programme.daysTried (p : Programme) (today : Nat) : List Nat :=
  match p.kind with
  | .once => [p.date]
  | .daily | .weekdays | .weekly =>
    let lo := max (today - 1) (match p.lastDay with
      | some l => l + 1
      | none => 0)
    (List.range 10).map (lo + ·)

/-- The next occurrence (R145): the run of the earliest day that meets the conditions. -/
def Programme.nextOccurrence (p : Programme) (today now : Nat) : Option Occurrence :=
  ((p.daysTried today).find? (p.fitsDay today now)).map p.runOn

/-- A programme with its next occurrence stored afresh: DONE when it has none (R146). -/
def Programme.renewed (p : Programme) (h : Hold) : Programme :=
  match p.nextOccurrence h.day h.now with
  | some o => { p with next := some o, state := .waiting }
  | none => { p with next := none, state := .done }

/-- A programme whose occurrence is over: DONE for ONCE, else renewed (R147 step 3, R174 step 2). -/
def Programme.afterRun (p : Programme) (h : Hold) : Programme :=
  match p.kind with
  | .once => { p with next := none, state := .done }
  | .daily | .weekdays | .weekly => p.renewed h

/-- The slots of the programme table with their numbers. -/
def slots (s : State) : List (Nat × Programme) := (List.range s.tim.programmes.length).zip s.tim.programmes

/-- The slot whose next occurrence starts earliest, the lowest slot among equals (R143, R167). -/
def earliest : List (Nat × Programme) → Option (Nat × Programme)
  | [] => none
  | x :: rest =>
    match earliest rest, x.2.next with
    | none, some _ => some x
    | none, none => none
    | some y, none => some y
    | some y, some o =>
      match y.2.next with
      | some q => if q.start < o.start then some y else some x
      | none => some x

/-- WAITING or HELD. -/
def Programme.waits (p : Programme) : Bool := p.state == .waiting || p.state == .held

/-- The next programme of the status snapshot (R143). -/
def nextProgramme (s : State) : Option Nat := (earliest ((slots s).filter (·.2.waits))).map (·.1)

/-! ### TIMER notices (11.8) -/

/-- A TIMER notice with a slot and no result; what stands in the result bits is open. Log entry 3. -/
def timerNotice (reason slot : Nat) (s : State) : State := raise .timer reason (slot * 16 + (s.openBits 0).toNat % 16) s

/-- The TIMER notice ENDED with a slot and a result (R174). -/
def endedNotice (slot : Nat) (r : ProgResult) (s : State) : State := raiseTimer endedReason slot r s

/-- A TIMER notice about the external recording; what stands in the slot bits is open. Log entry 3. -/
def extNotice (reason : Nat) (r : ProgResult) (s : State) : State := raiseTimer reason ((s.openBits 0).toNat / 16) r s

/-- EXT-IGNORED and EXT-STARTED carry neither slot nor result. Log entry 3. -/
def extBareNotice (reason : Nat) (s : State) : State := raise .timer reason (s.openBits 0).toNat s

/-! ### Missing and ending an occurrence -/

/-- Steps 1 to 3 of R147 on a record. -/
def Programme.missed (p : Programme) (h : Hold) : Programme :=
  let p := { p with outcome := ⟨.missed, .clear, p.next⟩, lastDay := p.next.map fun (o : Occurrence) => o.start / 1440 }
  p.afterRun h

/-- The four steps of R147. -/
def missSteps (slot : Nat) (s : State) : State := timerNotice missedReason slot (onProg slot (fun p => p.missed s.hold) s)

/-- The check of R160 is to be made, after all that has been reported so far: one already waiting gives up its turn, so that
the check follows the tidying of the transport when both are due (R174, steps 5 and 6). -/
def checkOff (s : State) : State := { s with agenda := s.agenda.filter (· != .autoOff) ++ [.autoOff] }

/-- An occurrence is missed (R147), and the check of R160 follows. -/
def miss (slot : Nat) (s : State) : State := checkOff (missSteps slot s)

/-- Steps 1 and 2 of R174 on a record. -/
def Programme.ended (p : Programme) (r : ProgResult) (flags : OccFlags) (h : Hold) : Programme :=
  let p := { p with outcome := ⟨r, flags, p.next⟩ }
  p.afterRun h

/-- The run record becomes none; the transport may have become free (R163, R165). -/
def dropRun (s : State) : State := s.onTim fun t => { t with run := none, freeDue := true }

/-- The timer engine releases its claim (R117). -/
def releaseTimer (s : State) : State := releaseFrom .timer s

/-- Steps 1, 2, 3 and 6 of R174 for the occurrence of a run record: the tuner and the transport are left as they stand. -/
def endRun (run : Run) (r : ProgResult) (s : State) : State :=
  checkOff (endedNotice run.slot r (dropRun (onProg run.slot (fun p => p.ended r run.flags s.hold) s)))

/-- The running occurrence ends ABORTED at a soft reset (R179): the tuner is not released, R103 sets it. -/
def resetRun (s : State) : State :=
  match s.tim.run with
  | none => s
  | some run => endRun run .aborted s

/-- The running occurrence ends with a result by R174; `abort` leaves the transport as it stands (step 5). -/
def endOccurrence (r : ProgResult) (abort : Bool) (s : State) : State :=
  match s.tim.run with
  | none => s
  | some run =>
    let s := onProg run.slot (fun p => p.ended r run.flags s.hold) s
    let s := endedNotice run.slot r (releaseTimer (dropRun s))
    checkOff (when (!abort) (push .tidy) s)

/-- A stop in PREROLL: the occurrence is missed and ends by steps 3 to 6 of R174 without the ENDED notice (R173). -/
def missRunning (s : State) : State :=
  match s.tim.run with
  | none => s
  | some run => checkOff (push .tidy (releaseTimer (dropRun (missSteps run.slot s))))

/-- The running occurrence is suspended for a power warning (R178). -/
def suspend (s : State) : State :=
  match s.tim.run with
  | none => s
  | some run =>
    let s := onProg run.slot (fun p =>
      { p with outcome := ⟨.powerFail, run.flags, p.next⟩, state := .waiting }) s
    endedNotice run.slot .powerFail (releaseTimer (dropRun s))

/-- The external recording ends (R176, R177). -/
def endExternal (r : ProgResult) (s : State) : State :=
  match s.tim.ext with
  | .none => s
  | .starting | .recording =>
    let s := s.onTim fun t => { t with ext := .none, freeDue := true }
    let s := extNotice extEndedReason r (releaseTimer s)
    checkOff (when (r != .aborted) (push .tidy) s)

/-- The mechanism controller gives the timer engine the end reason of a recording (R28 step 4, R173, R177, R178).
COMPLETE follows the engine's own instruction and is disregarded. -/
def engineTold (cause : Cause) (r : ProgResult) (s : State) : State :=
  match cause, r with
  | _, .complete => s
  | .programme _, r =>
    match s.tim.run with
    | some ⟨_, .recording, _, _, _⟩ => if r = .powerFail then suspend s else endOccurrence r (r == .aborted) s
    | _ => s
  | .external, r => endExternal r s
  | .manual, _ => s
  | .none, _ => s

/-- The mechanism controller gives the timer engine the end reason of a recording that a soft reset ends: a programme ends by R179,
an external recording by R177, which releases the tuner. -/
def engineReset (cause : Cause) (s : State) : State :=
  match cause with
  | .programme _ => resetRun s
  | .external => endExternal .aborted s
  | .manual => s
  | .none => s

/-! ### The free transport (R165) -/

/-- A seek requested by the host runs (R65). -/
def hostSeek (s : State) : Bool :=
  match s.cue.seek with
  | some ⟨.title _ _, _⟩ => true
  | some ⟨.endOf _, _⟩ => true
  | some ⟨.placement _, _⟩ => false
  | none => false

/-- A host target is pending. -/
def hostTarget (s : State) : Bool :=
  match s.mech.target with
  | some t => t.owner == .host
  | none => false

/-- The transport is free (R165). -/
def transportFree (s : State) : Bool :=
  !running s && s.tim.ext == .none && s.mech.cause != .manual && !s.pins.powerWarning
    && (s.hold.power != .on
        || ((s.mech.mode == .empty || s.mech.mode == .halted || s.mech.mode == .ready) && !hostTarget s && !hostSeek s))

/-! ### Preroll lead (R166) -/

/-- The title of a list with the highest start, the later among equals. -/
def highest : List Title → Option Title
  | [] => none
  | t :: rest =>
    match highest rest with
    | some u => if u.start < t.start then some t else some u
    | none => some t

/-- The target position of SEEK-END (R70). -/
def endTarget (s : State) (tag : Nat) : Int :=
  match highest (((titlesOf s tag).map (·.2)).filter (·.anchored)) with
  | some t => t.stop + 4 * fr s
  | none => 10 * fr s

/-- The seconds added for the wind of an AFTER-LAST placement (R166). -/
def windLead (p : Programme) (s : State) : Nat :=
  match p.afterLast, s.cue.identity.tag, anchoredP s with
  | true, some tag, some pos =>
    let far := apart (endTarget s tag) pos
    if 60 * fr s < far then 10 + (far + (120 * fr s - 1)) / (120 * fr s) else 0
  | _, _, _ => 0

/-- The preroll lead in seconds (R166). -/
def prerollLead (p : Programme) (s : State) : Nat :=
  min 300 ((if s.mech.mode = .ready then 4 else 12) + windLead p s)

/-- The preroll point of the next occurrence, in seconds (R166). -/
def prerollPoint (p : Programme) (s : State) : Option Int := p.next.map fun o => (o.start * 60 : Int) - prerollLead p s

/-- A programme may enter PREROLL: HELD, or WAITING with its preroll point reached (R167). -/
def prerollDue (p : Programme) (s : State) : Bool :=
  match p.state, prerollPoint p s with
  | .held, _ => true
  | .waiting, some pt => decide (pt ≤ s.hold.nowSeconds)
  | _, _ => false

/-- Some WAITING programme's preroll point lies within 300 s of now (R174 step 5). -/
def prerollNear (s : State) : Bool :=
  (slots s).any fun x =>
    match x.2.state, prerollPoint x.2 s with
    | .waiting, some pt => decide (apart pt s.hold.nowSeconds ≤ 300)
    | _, _ => false

/-! ### The fit (9.4) -/

/-- What the fit finds (R171). -/
inductive Fit where
  | unknown | tooShort | std | long | switchAt (count : Nat)
  deriving DecidableEq, Repr

/-- L of R171: the tape that may be recorded, less the guard of 4F HU. -/
def fitLength (s : State) (rem : Int) : Int :=
  let limit := match s.cue.identity.tag, anchoredP s with
    | some tag, some p => (limitFrom s tag p).map fun l => l - p
    | _, _ => none
  (match limit with
   | some l => min rem l
   | none => rem) - 4 * fr s

/-- The fit of an occurrence, from the length L and D_s (R171). -/
def fitOf (f : Nat) (l ds : Int) : Fit :=
  let x := l / f - ds
  if l < 4 * f then .tooShort
  else if ds ≤ x then .std
  else if x ≤ 0 then .long
  else .switchAt (2 * f * x).toNat

/-- D_s of R171, in seconds. -/
def fitSeconds (o : Occurrence) (now : Nat) : Int := ((o.stop : Int) - max o.start now) * 60

/-- The fit worked out with the tape and the clock as they stand (R171). -/
def fitNow (o : Occurrence) (s : State) : Fit :=
  match remaining s with
  | none => .unknown
  | some r => fitOf (fr s) (fitLength s r) (fitSeconds o s.hold.now)

/-- The plan and the first speed that a fit decides at a REC start; none where the occurrence ends TAPE-END (R171). -/
def Fit.plan : Fit → Option (Plan × Speed)
  | .unknown => some (.fitPending, .std)
  | .tooShort => none
  | .std => some (.decided, .std)
  | .long => some (.decided, .long)
  | .switchAt n => some (.switchAt n, .std)

/-- The speed plan of a programme when it is prepared (R168). -/
def Programme.firstPlan (p : Programme) : Plan :=
  match p.speed with
  | .std => .fixed .std
  | .long => .fixed .long
  | .fit => .fitPending

/-- The plan and first speed at a REC start or handover: the fit's for FIT, the programme's own otherwise. -/
def startPlan (p : Programme) (o : Occurrence) (s : State) : Option (Plan × Speed) :=
  match p.speed with
  | .std => some (.fixed .std, .std)
  | .long => some (.fixed .long, .long)
  | .fit => (fitNow o s).plan

/-- The run record changed by `f`. -/
def onRun (f : Run → Run) (s : State) : State := s.onTim fun t => { t with run := t.run.map f }

/-- The engine instructs LONG: the recording speed changes at once, SPEED-SWITCHED is added and the plan is DECIDED
(R172). -/
def switchToLong (s : State) : State :=
  onRun (fun r => { r with plan := .decided, flags := { r.flags with switched := true } }) (setRecSpeed .long s)

/-- A completed supply measurement decides a FIT-PENDING plan of a RECORDING programme (R172). -/
def decideFit (s : State) : State :=
  match s.tim.run with
  | some ⟨slot, .recording, _, .fitPending, count⟩ =>
    match (progAt s slot).bind (·.next) with
    | none => s
    | some o =>
      match fitNow o s with
      | .unknown => s
      | .std => onRun (fun r => { r with plan := .decided }) s
      | .long => switchToLong s
      | .tooShort => switchToLong s
      | .switchAt n => onRun (fun r => { r with plan := .switchAt (count + n) }) s
  | _ => s

/-- A forward counting step in REC while a programme is RECORDING: the recorded count, and the switch it reaches
(R163, R172). The count is held at 1,048,575, the end of its range. Log entry 61. -/
def countRecorded (s : State) : State :=
  match s.tim.run with
  | some ⟨_, .recording, _, plan, count⟩ =>
    let s := onRun (fun r => { r with count := min (count + 1) 1048575 }) s
    match plan with
    | .switchAt n => when (decide (n ≤ count + 1)) switchToLong s
    | .fixed _ | .fitPending | .decided => s
  | _ => s

end Sys2Proof.Machine
end

