-- ==== Sys2Proof/Machine/MechOps.lean ====
section
/-! DEFINITION. The mechanism controller (chapter 1): a change of mode, the way to a target, the start and the end of a
recording, the events that break in; and a change of position, which the mechanism controller is told of (R35). -/

namespace Sys2Proof.Machine

open Sys2Proof

/-! ### A change of mode (R1) -/

/-- The window of the reel watch in milliseconds (R20). -/
def Mode.reelWindow : Mode → Nat
  | .play | .recording => 4000
  | .searchFwd | .searchRev => 1000
  | .ff | .rew => 500
  | .empty | .loading | .halted | .threading | .ready | .still | .recPause | .unthreading | .ejecting | .fault => 0

/-- The direction the capstan runs in in a mode; none where it is stopped (R1). -/
def Mode.capstanForward : Mode → Option Bool
  | .play | .searchFwd | .recording | .ff => some true
  | .searchRev | .rew => some false
  | .empty | .loading | .halted | .threading | .ready | .still | .recPause | .unthreading | .ejecting | .fault => none

/-- The drum timer in a mode: 5 s from the start of THREADING (R3); in a threaded mode it runs on as it stands (R23). -/
def Mode.drumLimit (m : Mode) (t : Timer) : Timer :=
  if m = .threading then some 5000 else if m.threaded then t else none

/-- An EJECT taken in FAULT is still under way in a mode (R18). -/
def Mode.keepsFaultEject : Mode → Bool
  | .unthreading | .halted | .ejecting => true
  | .empty | .loading | .threading | .ready | .play | .still | .searchFwd | .searchRev | .recording | .recPause
  | .ff | .rew | .fault => false

/-- What the mechanism controller's own items become at an entry into a mode: R1, R2 to R5 (the 8 s of a motion), R20,
R22 (the idle timers run while `idle`), R23 to R25. -/
def Mech.enter (idle : Bool) (new : Mode) (m : Mech) : Mech :=
  { m with
    mode := new
    faultReason := if new = .fault then m.faultReason else none
    faultEject := m.faultEject && new.keepsFaultEject
    capstan := if new = .play then m.detected else m.capstan
    forward := new.capstanForward.getD m.forward
    drumCount := if new.drumOn then m.drumCount else 0
    drumLock := m.drumLock && new.drumOn
    inWindow := 0
    outWindow := 0
    unmeasured := false
    capstanLock := false
    noCtl := false
    motionTimer := if new.motion then some 8000 else none
    drumTimer := new.drumLimit m.drumTimer
    reelWatch := if new.tapeMoving then some (new.reelWindow + 2000) else none
    stillTimer := if idle && new == .still then some 300000 else none
    recPauseTimer := if idle && new == .recPause then some 300000 else none
    readyTimer := if idle && new == .ready then some 480000 else none
    ctlTimer := if new = .play then some 3000 else none }

/-- What an entry into a mode does to the mark reader (R56, R58); every entry into REC, a resume from REC-PAUSE among them, starts
the spacing of the pulses at 0. Log entry 51. -/
def Cue.enter (old new : Mode) (c : Cue) : Cue :=
  match new with
  | .play | .searchFwd => if old = .play ∨ old = .searchFwd then c else { c with reader := .waiting, gap := 0 }
  | .searchRev => { c with shortRun := 0 }
  | .recording => { c with writePhase := 0 }
  | .empty | .loading | .halted | .threading | .ready | .still | .recPause | .ff | .rew | .unthreading | .ejecting
  | .fault => c

/-- Record-enable turns off: a mark being written is cut and no pulse is being written (R53, R55). -/
def stopWriting (s : State) : State := (cutMark s).onCue fun c => { c with writePhase := 0, written := none }

/-- A change of mode (R1): the mechanism controller's items, the mark writer and reader, the reel counts and the wind
state follow, and the change is reported for the feed (R199), as is the change of counter that it can make (R43). -/
def changeMode (new : Mode) (s : State) : State :=
  let old := s.mech.mode
  if old = new then s
  else
    let s := when (old == .recording) stopWriting s
    let s := s.onMech (Mech.enter (!running s) new)
    refreshCounter (report 1 (posModeChange old new (s.onCue (Cue.enter old new))))

/-! ### The load (R2, R5) -/

/-- The load ends: the mechanism controller, the position unit, the cue unit, the catalogue and the lock unit are told
(R5, R32, R53, R56, R59, R60, R71, R78, R187). A seek is none from then on; a pending target of it is left as it stands. Log
entry 80. -/
def endLoad (s : State) : State :=
  { s with
    mech := { s.mech with tab := false }
    pos := .noLoad s.pos.memoryStop s.pos.shown
    cue := .initial
    cat := { s.cat with thisLoad := [], recording := none }
    lock := { s.lock with hold := none } }

/-! ### Targets (1.3) -/

/-- The pending target set or removed. -/
def setTarget (t : Option Target) (s : State) : State := s.onMech fun m => { m with target := t }

/-- The pending target is reached (R8, R10). -/
def reachTarget (s : State) : State :=
  match s.mech.target with
  | none => s
  | some ⟨m, owner⟩ =>
    let s := setTarget none s
    match owner with
    | .host => reportMotion .done s
    | .own => s
    | .timer => push (.timerReached m) s
    | .seek => push (.seekReached m) s

/-- A running seek is aborted by a request that was taken (R71): a host seek is reported ABORTED, the outcome of a
PLACEMENT seek goes to the timer engine. -/
def abortSeek (s : State) : State :=
  match s.cue.seek with
  | none => s
  | some sk =>
    let s := s.onCue fun c => { c with seek := none }
    match sk.kind with
    | .title _ _ => reportMotion .aborted s
    | .endOf _ => reportMotion .aborted s
    | .placement _ => push (.timerFailed .aborted) s

/-- A request replaces the pending target and aborts a running seek (R8, R10, R71). -/
def displace (s : State) : State :=
  let s := match s.mech.target with
    | some ⟨_, .host⟩ => reportMotion .superseded s
    | some ⟨_, .timer⟩ => push (.timerFailed .aborted) s
    | some ⟨_, .own⟩ => s
    | some ⟨_, .seek⟩ => s
    | none => s
  abortSeek (setTarget none s)

/-- A seek aborted by an event that breaks in, after the report of that event (R71). A PLACEMENT seek's outcome goes to
the timer engine: a memory stop lets it place the tape HERE, any other event ends the occurrence (R169). -/
def breakSeek (o : MotionOutcome) (r : ProgResult) (s : State) : State :=
  match s.cue.seek with
  | none => s
  | some sk =>
    let s := s.onCue fun c => { c with seek := none }
    match sk.kind with
    | .title _ _ => reportMotion .aborted s
    | .endOf _ => reportMotion .aborted s
    | .placement _ => push (if o = .memoryStop then .placementEnded else .timerFailed r) s

/-- The timer engine is told of an event that breaks in: its pending target failed (R10), or the tape left the REC-PAUSE
in which it had placed it (R169), be it that the step is still PLACING because the clock is not valid (R164). -/
def tellEngine (t : Option Target) (r : ProgResult) (s : State) : State :=
  match t, s.tim.run with
  | some ⟨_, .timer⟩, _ => push (.timerFailed r) s
  | _, some ⟨_, .placed, _, _, _⟩ => push (.timerFailed r) s
  | none, some ⟨_, .placing, _, _, _⟩ => when s.cue.seek.isNone (push (.timerFailed r)) s
  | _, _ => s

/-- An event breaks in (R8): the pending target becomes none, the tape is moved as the event says, and the event is
reported whether a target was pending or not. -/
def breakIn (o : MotionOutcome) (r : ProgResult) (move : State → State) (s : State) : State :=
  let t := s.mech.target
  breakSeek o r (tellEngine t r (reportMotion o (move (setTarget none s))))

/-! ### Recording (1.10) -/

/-- A recording ends: steps 1 to 5 of R28, `told` being what the timer engine does with the end reason. The caller makes the
mode change of step 6. -/
def endRecordingBy (told : Cause → State → State) (how : Closing) (s : State) : State :=
  match s.mech.cause with
  | .none => s
  | cause =>
    let s := closeRecording how (stopWriting s)
    let s := when (cause == .manual) (releaseFrom .record) s
    (told cause s).onMech fun m => { m with cause := .none }

/-- A recording ends with an end reason that the timer engine takes by its ordinary rules (R28). -/
def endRecording (r : ProgResult) (how : Closing) (s : State) : State :=
  endRecordingBy (fun cause u => engineTold cause r u) how s

/-- The tuner for a manual REC start (R115). -/
def claimRecord (s : State) : State :=
  match s.tun.owner with
  | .timer => s
  | .record => s
  | .view => takeTuner .record s
  | .scan => takeTuner .record s

/-- The recording speed that step 1 of R26 sets; it stands whether the catalogue then refuses the start or not, the cause
returning to NONE where it does. -/
def startSpeed (v : Speed) (s : State) : State := s.onMech fun m => { m with recSpeed := v }

/-- A REC start that the catalogue has not refused (R26). -/
def openRecording (cause : Cause) (speed : Speed) (s : State) : State :=
  let s := (startCut s).onMech fun m => { m with cause := cause, recSpeed := speed }
  let s := openFor cause s.tun.source s
  push .limit (changeMode .recording (when (cause == .manual) claimRecord s))

/-- The source being recorded is asked for: a running search ends PREEMPTED first (R115, R126). -/
def askSource (s : State) : State := endScan .preempted s

/-- The external recording has started (R176). -/
def extStarted (s : State) : State :=
  match s.tim.ext with
  | .starting => extBareNotice extStartedReason (s.onTim fun t => { t with ext := .recording })
  | .none => s
  | .recording => s

/-- REC is entered for a target (R12, R26): a REC start when no recording is open, a resume otherwise. A start that the
catalogue refuses fails the target. -/
def enterRec (owner : Owner) (s : State) : State :=
  if s.mech.cause ≠ .none then push .limit (changeMode .recording s)
  else
    let s := startSpeed s.settings.recordSpeed (askSource s)
    let refused := startRefused s
    match owner with
    | .timer =>
      if refused then push (.timerFailed .barred) (setTarget none s)
      else extStarted (openRecording .external s.settings.recordSpeed s)
    | .host | .own | .seek =>
      if refused then reportMotion .barred (setTarget none s)
      else openRecording .manual s.settings.recordSpeed s

/-! ### The way to a target (R7) -/

/-- What a motion in flight has come to: THREADING completes at THREAD-POS with drum lock (R3), UNTHREADING at HALT-POS
(R4). -/
def motionDone (s : State) : Option Mode :=
  match s.mech.mode with
  | .threading => if s.pins.cam = .threadPos ∧ s.mech.drumLock then some .ready else none
  | .unthreading => if s.pins.cam = .haltPos then some .halted else none
  | _ => none

/-- The next change on the way from a mode that is not the target (R7); none while the carriage moves, in EMPTY, and in
FAULT for any target but EMPTY (R18). -/
def wayTo (target : Mode) : Mode → Option Mode
  | .halted =>
    if target.threaded then some .threading else if target = .empty then some .ejecting else some target
  | .ff | .rew => if target = .halted ∨ target.winding then some target else some .halted
  | .ready | .play | .still | .searchFwd | .searchRev | .recording | .recPause =>
    if target.threaded then some target else some .unthreading
  | .fault => if target = .empty then some .unthreading else none
  | .empty | .loading | .threading | .unthreading | .ejecting => none

/-- One change of mode on the way: a recording ends where the tape leaves REC and REC-PAUSE (R28), the load ends as
EJECTING starts (R5), and REC is entered by R26. -/
def moveTo (owner : Owner) (new : Mode) (s : State) : State :=
  let s := when (s.mech.mode.inRecording && !new.inRecording) (endRecording .aborted .complete) s
  match new with
  | .recording => enterRec owner s
  | .ejecting => changeMode .ejecting (endLoad s)
  | m => changeMode m s

/-- The way to the pending target is followed as far as direct changes and motions that complete at once lead (R7, R8). -/
def follow : Nat → State → State
  | 0, s => s
  | n + 1, s =>
    match motionDone s with
    | some m => follow n (changeMode m s)
    | none =>
      match s.mech.target with
      | none => s
      | some t =>
        if s.mech.mode = t.mode then reachTarget s
        else
          match wayTo t.mode s.mech.mode with
          | none => s
          | some m => follow n (moveTo t.owner m s)

/-- As many changes as any way of R7 can need. -/
def wayLength : Nat := 8

/-- A target set by one of the blocks, and its way followed at once. -/
def startTarget (owner : Owner) (m : Mode) (s : State) : State := follow wayLength (setTarget (some ⟨m, owner⟩) s)

/-- A target of the controller's own (1.3). -/
def ownTarget (m : Mode) (s : State) : State := startTarget .own m s

/-- A target of a seek (R65). -/
def seekTarget (m : Mode) (s : State) : State := startTarget .seek m s

/-- The READY idle limit starts afresh at a transport request taken in READY (R22). One that stood stopped because READY was
entered while a programme was in PREROLL or RECORDING starts at such a request, once the programme has left those states.
Log entry 57. -/
def restartReady (s : State) : State :=
  when (s.mech.mode == .ready && !running s) (fun u => u.onMech fun m => { m with readyTimer := some 480000 }) s

/-- A target of a host request that has been taken (R8). -/
def hostTargetTo (m : Mode) (s : State) : State := startTarget .host m (restartReady (displace s))

/-- What bars a target of the timer engine (R10). -/
def timerBar (s : State) : Option ProgResult :=
  if s.mech.mode = .fault then some .fault
  else if s.mech.dewLock then some .dew
  else if s.mech.mode = .empty ∨ s.mech.mode = .ejecting then some .noCassette
  else none

/-- A target of the timer engine replaces what is pending: a host target is reported SUPERSEDED (R10), a host seek ABORTED
(R71). -/
def timerDisplace (s : State) : State :=
  let s := match s.mech.target with
    | some ⟨_, .host⟩ => reportMotion .superseded s
    | some ⟨_, .timer⟩ => s
    | some ⟨_, .own⟩ => s
    | some ⟨_, .seek⟩ => s
    | none => s
  (when (hostSeek s) abortSeek (setTarget none s)).onCue fun c => { c with seek := none }

/-- A target of the timer engine (R10): it replaces what is pending, and fails at once where something bars it. -/
def timerTarget (m : Mode) (s : State) : State :=
  match timerBar s with
  | some r => push (.timerFailed r) (timerDisplace s)
  | none => startTarget .timer m (timerDisplace s)

/-! ### Events that break in (1.6 to 1.8) -/

/-- FAULT is entered (R17). -/
def enterFault (r : FaultReason) (s : State) : State :=
  let enter (u : State) : State := (changeMode .fault u).onMech fun m => { m with faultReason := some r }
  raise .fault (faultCode r) 0 (breakIn .fault .fault enter (endRecording .fault .complete s))

/-- The modes that dew makes the controller leave (R19, first case). -/
def Mode.leavesForDew (m : Mode) : Bool :=
  m.tapeMoving || m == .ready || m == .still || m == .recPause || m == .threading

/-- The dew input becomes active (R19). -/
def dewBreaksIn (s : State) : State :=
  let s := s.onMech fun m => { m with dewLock := true, dewWait := none }
  let leave (u : State) : State :=
    if u.mech.mode.winding then changeMode .halted u
    else if u.mech.mode.leavesForDew then follow wayLength (changeMode .unthreading u)
    else u
  raise .fault dewReason 0 (breakIn .dew .dew leave (endRecording .dew .complete s))

/-- Memory stop applies (R22). In REW the crossing is noted, for a BOT edge that arrives together with it (R37). Log entry 73. -/
def memoryStopApplies (s : State) : State :=
  match s.mech.mode with
  | .rew => breakIn .memoryStop .aborted (changeMode .halted) (s.noteCrossing true)
  | .searchRev => breakIn .memoryStop .aborted (changeMode .ready) s
  | _ => s

/-- An automatic stop (R22). -/
def autoStop (move : State → State) (s : State) : State := breakIn .autoStop .aborted move s

/-! ### A change of P (R35) -/

/-- The memory-stop test of R42, with P and Z as they stood before the change. -/
def memoryStopTest (p0 : Int) (z0 : Option Int) (s : State) : State :=
  match z0, s.pos.zero, position s with
  | some z, some z', some p =>
    if s.pos.memoryStop ∧ (s.mech.mode = .rew ∨ s.mech.mode = .searchRev) ∧ z < p0 ∧ p ≤ z' then memoryStopApplies s
    else s
  | _, _, _ => s

/-- A changed P handed to the mechanism controller, the memory-stop test, the counter and a running seek (R35, R65). The
catalogue's current title is worked out before the next report and at the end of the step. A memory stop that applies aborts the
seek before the seek sees the change of P. Log entry 50. -/
def handOn (p0 : Int) (z0 : Option Int) (s : State) : State :=
  refreshCounter (memoryStopTest p0 z0 (when s.cue.seek.isSome (push .seekMoved) (push .limit s)))

/-- An anchor applied at a value (R38, R39). -/
def applyAnchor (v : Int) (s : State) : State :=
  match s.pos.place with
  | none => s
  | some pl =>
    let v := clampP .exact v
    let d := v - pl.p
    let z0 := s.pos.zero
    let s := s.onPos fun p => { p with
      place := some ⟨v, .exact⟩
      residue := 0
      zero := p.zero.map fun z => clampP .exact (z + d)
      pair := p.pair.map fun k => { k with pos := k.pos + d } }
    handOn pl.p z0 (rebase d s)

/-- A load begins (R2, R25, R32, R78); the counter value is there from then on (R43). A seek that was taken in the LOADING of a
load that a soft reset kept ends with that load, its pending target standing. Log entry 80. -/
def beginLoad (s : State) : State :=
  let s := endLoad s
  let s := refreshCounter { s with
    mech := { s.mech with tab := s.pins.recordTab, detected := s.settings.recordSpeed }
    pos := { s.pos with place := some ⟨0, .unanchored⟩ } }
  when s.pins.bot (applyAnchor 0) s

/-- The duty of a written pulse, in percent of its period (R53). -/
def Pulse.duty : Pulse → Nat
  | .ordinary => 60
  | .short => 30

/-- The pulse that stands for a bit (R54). -/
def pulseOf (bit : Bool) : Pulse := if bit then .short else .ordinary

/-- The bit that the pulse of the mark layout with a number from 1 to 25 stands for (R54). -/
def markPulse (tag slot n : Nat) : Bool :=
  if n ≤ 8 then true
  else if n ≤ 18 then tag.testBit (18 - n)
  else if n ≤ 24 then slot.testBit (24 - n)
  else (((List.range 10).filter tag.testBit).length + ((List.range 6).filter slot.testBit).length) % 2 == 1

/-- One control-track pulse is written (R53, R54). -/
def writePulse (c : Cue) : Cue :=
  match c.writer with
  | .idle => { c with writePhase := 0, written := some .ordinary }
  | .writing tag slot n =>
    { c with
      writePhase := 0
      written := some (pulseOf (markPulse tag slot n))
      writer := if 25 ≤ n then .idle else .writing tag slot (n + 1) }

/-- Half-units between two pulses (R53). -/
def pulseSpacing : Speed → Nat
  | .std => 2
  | .long => 1

/-- A half-unit has been recorded: the next control-track pulse is written when one is due (R53). -/
def writeTrack (s : State) : State :=
  s.onCue fun c =>
    if pulseSpacing s.mech.recSpeed ≤ c.writePhase + 1 then writePulse c
    else { c with writePhase := c.writePhase + 1 }

/-- A counting step with no pulse: the gap count; at 8 the reader hunts, and a run of SHORT pulses ends (R56, R58). The
mark passed by such a run is reported by `passMark`. -/
def gapStep (c : Cue) : Cue :=
  let gap := min 8 (c.gap + 1)
  { c with gap := gap, reader := if gap = 8 ∧ c.gap < 8 then .hunting 0 else c.reader }

/-- A passed mark is reported (R58, R59, R187). -/
def passMark (s : State) : State :=
  (s.onCue fun c => { c with lastMark := .passed, shortRun := 0 }).onLock fun l => { l with hold := none }

/-- A run of SHORT pulses ends in SEARCH-REV (R58). -/
def endShortRun (s : State) : State :=
  if 8 ≤ s.cue.shortRun then passMark s else s.onCue fun c => { c with shortRun := 0 }

/-- What a forward counting step in REC does (R90, R91, R163, R172). -/
def recordStep (s : State) : State := countRecorded (trimCovered ((position s).getD 0) (extendTitle s))

/-- A half-unit of tape has passed: the reel counts step (R44, R46), and in REC the control track is written (R53). -/
def tapePasses (fwd : Bool) (s : State) : State :=
  when (fwd && s.mech.mode == .recording) writeTrack
    (s.onPos fun p => { p with residue := 0, supply := p.supply.map Measure.step, takeUp := p.takeUp.map Measure.step })

/-- A counting step in a direction (R34, R35): the tape passes whatever the clamp does; the hand-offs are made when P has
changed. Log entry 26. -/
def countStep (fwd : Bool) (s : State) : State :=
  let s := tapePasses fwd s
  match s.pos.place with
  | none => s
  | some pl =>
    let v := clampP pl.quality (pl.p + (if fwd then 1 else -1))
    if v = pl.p then s
    else
      let gapEnds := s.cue.gap = 7
      let s := (s.onPos fun p => { p with place := some { pl with p := v } }).onCue gapStep
      let s := when (gapEnds && s.mech.mode == .searchRev) endShortRun s
      let s := when (fwd && s.mech.mode == .recording) recordStep s
      handOn pl.p s.pos.zero s

/-- P moved by a wind step (R52). -/
def windMove (adv : Int) (s : State) : State :=
  match s.pos.place with
  | none => s
  | some pl =>
    let q := if pl.quality = .exact then .estimated else pl.quality
    let v := clampP q (pl.p + adv)
    let s := s.onPos fun p => { p with place := some ⟨v, q⟩ }
    if v = pl.p then s else handOn pl.p s.pos.zero s

/-- The wind step of the mode (R50, R51); none outside FF and REW. -/
def windStep (s : State) : State :=
  match s.mech.mode, s.pos.wind with
  | .ff, some w => windMove w.ffStep.2 (s.onPos fun p => { p with wind := some w.ffStep.1 })
  | .rew, some w => windMove w.rewStep.2 (s.onPos fun p => { p with wind := some w.rewStep.1 })
  | _, _ => s

/-- The supply measurement completes (R44, R47): the completing edge starts the next count. -/
def completeSupply (s : State) : State :=
  match s.pos.supply, s.pos.place with
  | some m, some pl =>
    let s := s.onPos fun p => { p with supply := some ⟨0, 0⟩ }
    if measureAccepted m.steps then
      let found := remainingOf (reelInForce s) m.steps
      decideFit (offerTotal found (s.onPos fun p => { p with pair := some ⟨found, pl.p⟩ }))
    else s
  | _, _ => s

/-- The take-up measurement completes (R46). -/
def completeTakeUp (s : State) : State :=
  s.onPos fun p =>
    match p.takeUp with
    | none => p
    | some m =>
      { p with takeUp := some ⟨0, 0⟩, takeUpLast := if measureAccepted m.steps then some m.steps else p.takeUpLast }

/-! ### Tape end (R21) -/

/-- The sensor ahead of the tape is active (R21). -/
def endAhead (s : State) : Bool := if s.mech.mode.reverse then s.pins.bot else s.pins.eot

/-- A tape end (R21). A seek whose rule names it goes on (R67 to R69) and is told; a recording ends TAPE-END. -/
def tapeEnd (s : State) : State :=
  let mode := s.mech.mode
  let seeking := s.cue.seek.isSome
  let t := s.mech.target
  let leave : State → State := if mode.winding then changeMode .halted else changeMode .ready
  let rewinds := mode == .play && s.settings.autoRewind && !seeking
  let s := endRecording .tapeEnd .complete s
  let s := reportMotion .tapeEnd ((if rewinds then id else leave) (setTarget none s))
  let s := if seeking then push (.seekTapeEnd mode) s else tellEngine t .tapeEnd s
  when rewinds (ownTarget .rew) s

/-! ### The mode from the switches (R30, R31) -/

/-- The values of R30 with the given mode. -/
def Mech.restarted (m : Mech) (speed : Speed) (dew : Bool) (mode : Mode) (reason : Option FaultReason) : Mech :=
  { Mech.initial speed with
    mode := mode
    faultReason := reason
    stuck := m.stuck
    tab := m.tab
    dewLock := dew
    capstan := m.capstan
    forward := m.forward
    motionTimer := if mode.motion then some 8000 else none }

/-- The mode that the switches name (R30). -/
def switchMode (p : Inputs) : Mode :=
  match p.carriageDown, p.cassetteIn, p.cam with
  | false, false, _ => .empty
  | false, true, _ => .loading
  | true, _, .haltPos => .halted
  | true, _, .between => .unthreading
  | true, _, .threadPos => .unthreading

/-- The mode and the values of R30 taken from the switches; a load in progress is kept, and the stuck flag holds the mode
at FAULT (R31). No load begins here: where none is in progress everything stays absent (R33), and the load of a power-up is begun
by `wakeTape`. The power-warning input is not looked at: the mode is LOADING or UNTHREADING as the switches name it, with the
warning active too. Log entry 47. -/
def takeMode (s : State) : State :=
  let old := s.mech.mode
  let new := if s.mech.stuck then .fault else switchMode s.pins
  let reason := if s.mech.stuck then s.mech.faultReason else none
  let s := when (old == .recording && new != .recording) stopWriting s
  let s := s.onMech fun m => m.restarted s.settings.recordSpeed s.pins.dew new reason
  refreshCounter (when (old != new) (fun u => report 1 (posModeChange old new (u.onCue (Cue.enter old new)))) s)

end Sys2Proof.Machine
end

