-- ==== Sys2Proof/Machine/SeekOps.lean ====
section
/-! DEFINITION. The seek operations of the cue unit (3.5): the phases of a seek and what a change of P, a reached target,
an accepted mark or a tape end does in each. -/

namespace Sys2Proof.Machine

open Sys2Proof

/-- The title of a cassette that holds a slot. -/
def titleBySlot (s : State) (tag slot : Nat) : Option (Nat × Title) :=
  (titlesOf s tag).find? fun x => x.2.slot == some slot

/-- The target start of a seek, read afresh for a TITLE seek (R65). -/
def seekStart (s : State) : SeekKind → Option Int
  | .title tag slot => (titleBySlot s tag slot).map (·.2.start)
  | .endOf p => some p
  | .placement p => some p

/-- The stop point of the wind and of the search back: the target start less 20F HU, or 0 (R67, R68). -/
def stopPoint (s : State) (start : Int) : Int := max 0 (start - 20 * fr s)

/-- The phase of the running seek. -/
def setPhase (ph : SeekPhase) (s : State) : State :=
  s.onCue fun c => { c with seek := c.seek.map fun k => { k with phase := ph } }

/-- A seek ends FOUND or APPROXIMATE (R69, R71); the outcome of a PLACEMENT seek goes to the timer engine (R70). -/
def endSeek (o : MotionOutcome) (s : State) : State :=
  match s.cue.seek with
  | none => s
  | some sk =>
    let s := s.onCue fun c => { c with seek := none }
    match sk.kind with
    | .title _ _ => reportMotion o s
    | .endOf _ => reportMotion o s
    | .placement _ => push .placementEnded s

/-- WIND (R67). -/
def beginWind (start : Int) (s : State) : State :=
  seekTarget (if (position s).getD 0 < stopPoint s start then .ff else .rew) (setPhase .wind s)

/-- A seek of a title that is to be read by its mark: a TITLE seek without NO-CUE (R68). -/
def seeksMark (s : State) : SeekKind → Bool
  | .title tag slot => match titleBySlot s tag slot with
    | some (_, t) => !t.noCue
    | none => false
  | .endOf _ => false
  | .placement _ => false

/-- The end of APPROACH: SCAN or PLAY-IN (R68, R69). -/
def endApproach (k : SeekKind) (s : State) : State :=
  if seeksMark s k then seekTarget .searchFwd (setPhase .scan s) else seekTarget .play (setPhase .playIn s)

/-- APPROACH with the tape threaded (R68). -/
def approachThreaded (k : SeekKind) (start : Int) (s : State) : State :=
  if start - 4 * fr s < (position s).getD 0 then seekTarget .searchRev s else endApproach k s

/-- APPROACH (R68). -/
def beginApproach (k : SeekKind) (start : Int) (s : State) : State :=
  let s := setPhase .approach s
  if s.mech.mode.threaded then approachThreaded k start s else seekTarget .ready s

/-- RETURN (R69). -/
def beginReturn (s : State) : State := seekTarget .searchRev (setPhase .back s)

/-- The target at the end of PLAY-IN (R69, R70). -/
def SeekKind.finalMode : SeekKind → Mode
  | .title _ _ => .still
  | .endOf _ => .still
  | .placement _ => .recPause

/-- A new seek (R66, R70), what it replaces being gone already. -/
def beginSeek (k : SeekKind) (s : State) : State :=
  match seekStart s k, position s with
  | some start, some p =>
    let s := s.onCue fun c => { c with seek := some ⟨k, .wind⟩ }
    if 60 * fr s < apart p start then beginWind start s else beginApproach k start s
  | _, _ => s

/-- A change of P while a seek runs (R67 to R69). The search back of APPROACH ends at the stop point, which is 0 for a target start
below 20F HU, a start below 4F HU among them. Log entry 49. -/
def seekMoved (s : State) : State :=
  match s.cue.seek, position s with
  | some sk, some p =>
    match seekStart s sk.kind with
    | none => s
    | some start =>
      match sk.phase, s.mech.mode with
      | .wind, .ff => if stopPoint s start ≤ p then seekTarget .ready s else s
      | .wind, .rew => if p ≤ stopPoint s start then seekTarget .ready s else s
      | .approach, .searchRev => if p ≤ stopPoint s start then endApproach sk.kind s else s
      | .scan, .searchFwd => if start + 60 * fr s < p then beginReturn s else s
      | .playIn, .play => if start ≤ p then seekTarget sk.kind.finalMode s else s
      | .back, .searchRev => if p ≤ start then seekTarget .still s else s
      | _, _ => s
  | _, _ => s

/-- A seek's target is reached (R67 to R69). -/
def seekReached (m : Mode) (s : State) : State :=
  match s.cue.seek with
  | none => s
  | some sk =>
    match seekStart s sk.kind with
    | none => s
    | some start =>
      match sk.phase, m with
      | .wind, .ready => beginApproach sk.kind start s
      | .approach, .ready => approachThreaded sk.kind start s
      | .scan, .still => endSeek .found s
      | .playIn, .still => endSeek .approximate s
      | .playIn, .recPause => endSeek .approximate s
      | .back, .still => endSeek .approximate s
      | _, _ => s

/-- A mark was accepted while a seek runs (R64, R69). -/
def seekMark (tag slot : Nat) (s : State) : State :=
  match s.cue.seek with
  | some ⟨.title t k, .scan⟩ =>
    if tag = t ∧ slot = k then seekTarget .still s
    else
      match seekStart s (.title t k), titleBySlot s tag slot with
      | some start, some (_, u) => if tag = t ∧ start < u.start then beginReturn s else s
      | _, _ => s
  | _ => s

/-- The reel watch found a tape end while a seek runs (R67 to R69). -/
def seekTapeEnd (s : State) : State :=
  match s.cue.seek with
  | none => s
  | some sk =>
    match seekStart s sk.kind with
    | none => s
    | some start =>
      match sk.phase with
      | .wind => beginApproach sk.kind start s
      | .approach => endApproach sk.kind s
      | .scan => beginReturn s
      | .playIn => seekTarget .still s
      | .back => seekTarget .still s

/-- The mode that stops the tape (R71). -/
def stopMode (m : Mode) : Option Mode :=
  if m.threaded || m == .threading then some .ready
  else if m.winding || m == .unthreading || m == .loading then some .halted
  else none

/-- A TITLE seek whose target is gone, or whose cassette is no longer the one named (R71). -/
def seekGone (s : State) : State :=
  match s.cue.seek with
  | some ⟨.title _ _, _⟩ =>
    let s := abortSeek (setTarget none s)
    match stopMode s.mech.mode with
    | some m => ownTarget m s
    | none => s
  | _ => s

end Sys2Proof.Machine
end

