-- ==== Sys2Proof/Machine/Agenda.lean ====
section
/-! DEFINITION. The timer engine's work on the transport (chapter 9), the deck power state (8.5), and the reports that one
block has for another inside a step: each is taken in the order in which it was made until none is left (log entry 5). -/

namespace Sys2Proof.Machine

open Sys2Proof

/-! ### Lock and power -/

/-- An entry into OFF or TIMER-STANDBY ends an unlock (R181). -/
def closeLock (s : State) : State :=
  s.onLock fun l => { l with state := if l.state = .unlocked then .locked else l.state }

/-- The deck power state is written into the hold domain (R157). -/
def setPower (p : DeckPower) (s : State) : State := s.onHold fun h => { h with power := p }

/-- Every programme in HELD has its occurrence missed (R157, step 2). The slots are taken from 0 to 15: the rule gives several of them
no order, and the last one is the slot that the TIMER notice keeps. Log entry 71. -/
def missHeld (s : State) : State :=
  (slots s).foldl (fun acc x => if x.2.state = .held then miss x.1 acc else acc) s

/-- The target HALTED of R157 and R158, which a cassette in the mouth or on its way out does not get. An external
recording that has not started is ended ABORTED first. -/
def haltTransport (s : State) : State :=
  if s.mech.mode = .empty ∨ s.mech.mode = .ejecting then s
  else timerTarget .halted (when (s.tim.ext == .starting) (endExternal .aborted) s)

/-- The running programme's occurrence ends ABORTED, and its recording with it (R157, step 1); the transport is moved by step 4
alone. -/
def abortProgramme (s : State) : State :=
  let u := endOccurrence .aborted true s
  match s.tim.run, s.mech.cause with
  | some _, .programme _ => endRecording .aborted .complete u
  | _, _ => u

/-- The deck power state becomes OFF (R157). -/
def deckOff (s : State) : State :=
  closeLock (stopScan (haltTransport (setPower .off (missHeld (abortProgramme s)))))

/-- Nothing is left for an armed deck to do (R160). An external record that is STARTING counts as an external recording in
progress. Log entry 76. -/
def nothingLeft (s : State) : Bool :=
  s.hold.power == .timerStandby && s.tim.ext == .none
    && !s.tim.programmes.any fun p => p.waits || p.state == .preroll || p.state == .recording

/-- The check of R160. -/
def autoOff (s : State) : State := if nothingLeft s then raise .power autoOffReason 0 (deckOff s) else s

/-! ### Preroll (9.3) -/

/-- A programme enters PREROLL (R168, steps 1 to 4); the idle timers stop (R22). -/
def enterPreroll (slot : Nat) (s : State) : State :=
  match progAt s slot with
  | none => s
  | some p =>
    let s := setProg slot { p with state := .preroll, lastDay := p.next.map fun (o : Occurrence) => o.start / 1440 } s
    let s := s.onTim fun t => { t with run := some ⟨slot, .checking, .clear, p.firstPlan, 0⟩ }
    let s := s.onMech fun m => { m with stillTimer := none, recPauseTimer := none, readyTimer := none }
    timerNotice prerollReason slot (claimTuner p.source s)

/-- The checks of R168, in their order. -/
def prerollCheck (p : Programme) (s : State) : Option ProgResult :=
  if s.mech.mode = .empty ∨ s.mech.mode = .ejecting then some .noCassette
  else if s.mech.mode = .fault then some .fault
  else if s.mech.dewLock then some .dew
  else if !s.mech.tab then some .noTab
  else if p.target ≠ 0 ∧ s.cue.identity.tag ≠ some p.target then some .wrongCassette
  else none

/-- The preroll step of the run record. -/
def setRunPhase (ph : RunPhase) (s : State) : State := onRun (fun r => { r with phase := ph }) s

/-- PLACEMENT-FALLBACK is added to the flags and the tape is placed HERE (R169). -/
def placeFallback (s : State) : State :=
  timerTarget .recPause (onRun (fun r => { r with flags := { r.flags with fallback := true } }) s)

/-- Step PLACING (R169). -/
def place (p : Programme) (s : State) : State :=
  let s := setRunPhase .placing s
  match p.afterLast, s.cue.identity.tag, anchoredP s with
  | false, _, _ => timerTarget .recPause s
  | true, some tag, some _ =>
    beginSeek (.placement (endTarget s tag)) (timerDisplace s)
  | true, _, _ => placeFallback s

/-- Step CHECKING is due: the clock is valid and no motion but that of the carriage outward is in flight (R164, R168). -/
def checkDue (s : State) : Bool :=
  match s.tim.run with
  | some ⟨_, .checking, _, _, _⟩ =>
    s.hold.valid && s.mech.mode != .loading && s.mech.mode != .threading && s.mech.mode != .unthreading
  | _ => false

/-- Step CHECKING (R168). -/
def runCheck (s : State) : State :=
  match s.tim.run.bind fun r => progAt s r.slot with
  | none => s
  | some p =>
    match prerollCheck p s with
    | some r => endOccurrence r false s
    | none => place p s

/-- The REC start of a placed programme (R170). -/
def startProgramme (late : Bool) (s : State) : State :=
  match s.tim.run with
  | none => s
  | some run =>
    match progAt s run.slot with
    | none => s
    | some p =>
      match p.next with
      | none => s
      | some o =>
        match startPlan p o s with
        | none => endOccurrence .tapeEnd false s
        | some (plan, speed) =>
          let s := onRun (fun r => { r with flags := { r.flags with late := r.flags.late || late }, plan := plan }) s
          let s := startSpeed speed (askSource s)
          if startRefused s then endOccurrence .barred false s
          else
            let s := openRecording (.programme run.slot) speed s
            let s := onProg run.slot (fun q => { q with state := .recording }) s
            timerNotice startedReason run.slot (onRun (fun r => { r with phase := .recording, count := 0 }) s)

/-- The start index of the occurrence being run. -/
def runNext (s : State) : Option Occurrence := (s.tim.run.bind fun r => progAt s r.slot).bind (·.next)

/-- A REC start made as step PLACED is reached is LATE (R170, step 2): when now is above the start, or when it is not made at
the second event at which the start was reached. `edge` is the lowest start that the second event being handed on has
reached, none outside one. Log entry 48. -/
def lateAt (edge : Option Nat) (start now : Nat) : Bool :=
  decide (start < now) || (match edge with
    | some r => decide (start < r)
    | none => true)

/-- Step PLACED is reached (R169), and the start is compared at that moment (R170). -/
def becomePlaced (edge : Option Nat) (s : State) : State :=
  let s := setRunPhase .placed s
  match runNext s with
  | some o => when (decide (o.start ≤ s.hold.now)) (startProgramme (lateAt edge o.start s.hold.now)) s
  | none => s

/-- A programme is in step PLACING. -/
def placing (s : State) : Bool :=
  match s.tim.run with
  | some ⟨_, .placing, _, _, _⟩ => true
  | _ => false

/-- A target of the timer engine was reached (R169). While the clock is not valid the step stays PLACING (R164). -/
def timerReached (edge : Option Nat) (m : Mode) (s : State) : State :=
  if placing s && m == .recPause && s.hold.valid then becomePlaced edge s else s

/-- A target of the timer engine failed, or the tape left the placed REC-PAUSE (R169, R176, R178), whether the clock is valid
or not. Log entry 48. -/
def timerFailed (r : ProgResult) (s : State) : State :=
  match s.tim.run with
  | some ⟨_, .placing, _, _, _⟩ => if r = .powerFail then suspend s else endOccurrence r (r == .aborted) s
  | some ⟨_, .placed, _, _, _⟩ => if r = .powerFail then suspend s else endOccurrence r (r == .aborted) s
  | _ => if s.tim.ext = .starting then endExternal r s else s

/-- The placement has ended: PLACED in REC-PAUSE, else the tape is placed HERE (R169). -/
def endPlacing (edge : Option Nat) (s : State) : State :=
  if s.mech.mode = .recPause then becomePlaced edge s else placeFallback s

/-- A PLACEMENT seek ended, or was aborted by a memory stop (R169). While the clock is not valid the step stays PLACING
(R164). -/
def placementEnded (edge : Option Nat) (s : State) : State :=
  if placing s && s.hold.valid then endPlacing edge s else s

/-- The placement ended while the clock was not valid: neither a target nor a seek is left of it (R164). -/
def placingRests (s : State) : Bool := s.mech.target.isNone && s.cue.seek.isNone

/-! ### The end of an occurrence (9.5) -/

/-- A PLACEMENT seek is running. -/
def placementSeek (s : State) : Bool :=
  match s.cue.seek with
  | some ⟨.placement _, _⟩ => true
  | _ => false

/-- The transport is tidied (R174, step 5). -/
def tidy (s : State) : State :=
  if s.mech.mode = .fault ∨ s.mech.mode = .halted then s
  else
    let s := when (s.mech.mode == .recPause || placementSeek s)
      (fun u => timerTarget .ready (u.onCue fun c => { c with seek := none })) s
    when (s.hold.power == .timerStandby && s.mech.mode.threaded && !prerollNear s) (timerTarget .halted) s

/-- P at or past the protection limit in REC (R27). -/
def limitReached (s : State) : Bool :=
  match s.mech.mode, protectionLimit s, anchoredP s with
  | .recording, some l, some p => decide (l ≤ p)
  | _, _, _ => false

/-- The comparison of R27. -/
def checkLimit (s : State) : State :=
  if limitReached s then
    breakIn .protectLimit .protectLimit (changeMode .ready) (endRecording .protectLimit .complete s)
  else s

/-! ### The agenda -/

/-- One report taken; `edge` is that of `lateAt`. -/
def runTask (edge : Option Nat) : Task → State → State
  | .seekReached m, s => seekReached m s
  | .seekMoved, s => seekMoved s
  | .seekMark tag slot, s => seekMark tag slot s
  | .seekTapeEnd _, s => seekTapeEnd s
  | .seekGone, s => seekGone s
  | .timerReached m, s => timerReached edge m s
  | .timerFailed r, s => timerFailed r s
  | .placementEnded, s => placementEnded edge s
  | .tidy, s => tidy s
  | .autoOff, s => autoOff s
  | .limit, s => checkLimit s

/-- Reports taken one after another until none is left and no check of R168 is due; `fuel` bounds their number. The current
title and the counter are worked out afresh before each, so that a change that a report undoes is told as well (R98, R187, R43). -/
def runAgenda (edge : Option Nat) : Nat → State → State
  | 0, s => { s with agenda := [] }
  | n + 1, s =>
    match s.agenda with
    | t :: rest => runAgenda edge n (runTask edge t (refreshCounter (refreshTitle { s with agenda := rest })))
    | [] => if checkDue s then runAgenda edge n (runCheck s) else s

/-- More reports than one step can make. -/
def agendaFuel : Nat := 64

/-- All reports taken, inside the evaluation of a second event or outside one. -/
def settleAt (edge : Option Nat) (s : State) : State := runAgenda edge agendaFuel s

/-- All reports of the step taken. -/
def settle (s : State) : State := settleAt none s

/-! ### Handover (9.6) -/

/-- The instruction to end the recording (R28): COMPLETE is the engine's own, and the tape goes to READY. -/
def endInstruction (s : State) : State := changeMode .ready (endRecording .complete .complete s)

/-- Candidates of a handover (R175). -/
def handoverCandidate (now : Nat) (p : Programme) : Bool :=
  match p.next with
  | none => false
  | some o => decide (now < o.stop) && (p.state == .held || (p.state == .waiting && decide (o.start ≤ now)))

/-- A slot placed by its start among slots already in order; equals keep the order of their numbers. -/
def insertByStart (x : Nat × Nat) : List (Nat × Nat) → List (Nat × Nat)
  | [] => [x]
  | y :: rest => if x.2 < y.2 then x :: y :: rest else y :: insertByStart x rest

/-- The candidates in the order in which they are tried (R175). -/
def handoverOrder (s : State) : List Nat :=
  (((slots s).filter fun x => handoverCandidate s.hold.now x.2).foldl
    (fun acc x => insertByStart (x.1, (x.2.next.map (·.start)).getD 0) acc) []).map (·.1)

/-- A candidate whose occurrence ends in the search: steps 1, 2 and 6 of R174 alone. The run record is that of A, so the outcome has no
flags. Log entry 70. -/
def failCandidate (slot : Nat) (r : ProgResult) (s : State) : State :=
  checkOff (endedNotice slot r (onProg slot (fun p => p.ended r .clear s.hold) s))

/-- What the running recording hands over from: step 1 of R175. The EXT-ENDED of an external recording carries COMPLETE: step 1
names no result. Log entry 79. -/
def handOverFrom (s : State) : State :=
  match s.tim.run with
  | some run => endRun run .complete s
  | none =>
    match s.tim.ext with
    | .none => s
    | .starting => s
    | .recording => extNotice extEndedReason .complete (s.onTim fun t => { t with ext := .none })

/-- Steps 2 to 5 of R175, or the end of B where the catalogue refuses its opening. -/
def handOverTo (slot : Nat) (p : Programme) (o : Occurrence) (plan : Plan) (speed : Speed) (s : State) : State :=
  let flags : OccFlags := ⟨decide (o.start < s.hold.now), false, false⟩
  let s := onProg slot (fun q => { q with state := .recording }) s
  let s := s.onTim fun t => { t with run := some ⟨slot, .recording, flags, plan, 0⟩ }
  let s := claimTuner p.source s
  let s := setRecSpeed speed (closeRecording .complete s)
  let s := s.onMech fun m => { m with cause := .programme slot }
  if startRefused s then endInstruction (endOccurrence .barred false s)
  else timerNotice startedReason slot (openFor (.programme slot) s.tun.source (startCut s))

/-- The search for a handover over the candidates in order (R175): the state after it, and whether one was made. -/
def tryHandover : List Nat → State → Bool × State
  | [], s => (false, s)
  | slot :: rest, s =>
    match progAt s slot with
    | none => tryHandover rest s
    | some p =>
      match p.next with
      | none => tryHandover rest s
      | some o =>
        let s := onProg slot (fun q => { q with lastDay := some (o.start / 1440) }) s
        if p.target ≠ 0 ∧ s.cue.identity.tag ≠ some p.target then tryHandover rest (failCandidate slot .wrongCassette s)
        else
          match startPlan p o s with
          | none => tryHandover rest (failCandidate slot .tapeEnd s)
          | some (plan, speed) => (true, handOverTo slot p o plan speed (handOverFrom s))

/-- A handover is looked for, the tape being in REC (R175). -/
def lookForHandover (s : State) : Bool × State :=
  if s.mech.mode = .recording then tryHandover (handoverOrder s) s else (false, s)

/-! ### Evaluation (R164) -/

/-- The active programme is dealt with by R170 and R173. A placement that ended while the clock was not valid is taken up. -/
def activeRule (edge : Option Nat) (s : State) : State :=
  match s.tim.run, runNext s with
  | some run, some o =>
    match run.phase with
    | .recording =>
      if o.stop ≤ s.hold.now then
        let (made, s) := lookForHandover s
        -- the mode changes after the occurrence has ended (R28, steps 4 and 6; R174)
        if made then s else changeMode .ready (endOccurrence .complete false (endRecording .complete .complete s))
      else s
    | .placed =>
      if o.stop ≤ s.hold.now then missRunning s
      else if o.start ≤ s.hold.now then startProgramme (decide (o.start < s.hold.now)) s
      else s
    | .checking => if o.stop ≤ s.hold.now then missRunning s else s
    | .placing => if o.stop ≤ s.hold.now then missRunning s else when (placingRests s) (endPlacing edge) s
  | _, _ => s

/-- Case 1 of R167 for one programme. -/
def missedNow (off : Bool) (now : Nat) (p : Programme) : Bool :=
  match p.next with
  | none => false
  | some o => (p.state == .held && decide (o.stop ≤ now)) || (off && p.state == .waiting && decide (o.start ≤ now))

/-- Case 1 of R167. The slots are taken from 0 to 15: the rule gives several of them no order. Log entry 71. -/
def missDue (s : State) : State :=
  (slots s).foldl (fun acc x => if missedNow (s.hold.power == .off) s.hold.now x.2 then miss x.1 acc else acc) s

/-- Case 2 of R167. -/
def enterDue (s : State) : State :=
  if s.hold.power = .off ∨ !transportFree s then s
  else
    match earliest ((slots s).filter fun x => prerollDue x.2 s) with
    | some (slot, _) => enterPreroll slot s
    | none => s

/-- Case 3 of R167. The slots are taken from 0 to 15: the rule gives several of them no order. Log entry 71. -/
def holdDue (s : State) : State :=
  if s.hold.power = .off ∨ transportFree s then s
  else
    (slots s).foldl (fun acc x =>
      match x.2.state, x.2.next with
      | .waiting, some o =>
        if o.start ≤ s.hold.now then
          timerNotice heldReason x.1 (onProg x.1 (fun p => { p with state := .held }) acc)
        else acc
      | _, _ => acc) s

/-- The waiting rule (R167). The evaluation that a transport become free asks for is made with it (R165). -/
def waitingRule (s : State) : State :=
  (holdDue (enterDue (missDue s))).onTim fun t => { t with freeDue := false }

/-- A full evaluation (R164): the stop of the active programme is dealt with, and its transport tidied, before the waiting
programmes are; a programme that enters PREROLL is checked and placed as far as the tape stands ready. `edge` is that of
`lateAt`. -/
def evaluate (edge : Option Nat) (s : State) : State :=
  if s.hold.valid then settleAt edge (waitingRule (settleAt edge (activeRule edge s))) else s

/-- The re-examination of one programme (R148). -/
def reexamineOne (slot : Nat) (s : State) : State :=
  match progAt s slot with
  | none => s
  | some p =>
    match p.next with
    | none => s
    | some o =>
      if !p.waits then s
      else if o.stop ≤ s.hold.now then miss slot s
      else if s.hold.now < o.start then setProg slot (p.renewed s.hold) s
      else s

/-- The re-examination of R148. -/
def reexamine (s : State) : State :=
  if s.hold.valid then
    checkOff ((List.range s.tim.programmes.length).foldl (fun acc n => reexamineOne n acc) s)
  else s

/-! ### The end of a step -/

/-- The contents of a live record, as a write copies them (R189). -/
def copyOf (s : State) : RecordId → RecordCopy
  | .settings => .settings s.settings
  | .preset n => .preset n ((presetAt s n).getD .factory)
  | .programme n => .programme n ((progAt s n).getD .factory)
  | .cassette place => .cassette place (s.cat.cassettes.find? (·.place == place))
  | .title n => .title n (titleAt s n)

/-- When no write is in flight and the queue is not empty, the first record leaves it and its write starts (R189). -/
def pump (s : State) : State :=
  match s.store.flight, s.store.queue with
  | none, r :: rest => s.onStore fun st => { st with queue := rest, flight := some ⟨copyOf s r, true⟩ }
  | _, _ => s

/-- The end of every step: the reports are taken, the current title and the counter are worked out afresh (R98, R43), the
transport's becoming free is noted (R165), the free values move on (log entry 3), a memory-stop crossing of the step before
is forgotten (R37, log entry 73), and a write starts where none is in flight (R189). -/
def finish (s0 s : State) : State :=
  let s := refreshCounter (refreshTitle (settle s))
  pump ((s.onTim fun t => { t with freeDue := (t.freeDue || !transportFree s0) && transportFree s }).noteCrossing
    (s.crossed && !s0.crossed)).freshOpen

end Sys2Proof.Machine
end

