-- ==== Sys2Proof/Machine/Flags.lean ====
section
/-! DEFINITION. What the controller shows: the outputs of the mechanism controller (R1), the mute output (R186), and the
flag bytes and codes of the status snapshot (11.8). -/

namespace Sys2Proof.Machine

open Sys2Proof

/-! ### Outputs of the mechanism controller (R1) -/

/-- The carriage motor. -/
inductive Carriage where
  | off | inward | outward
  deriving DecidableEq, Repr

/-- The drum motor. -/
inductive Drum where
  | off | runningUp | on
  deriving DecidableEq, Repr

/-- The capstan motor: the speed at which it runs, in the manual's words. -/
inductive Capstan where
  | off
  | at (forward : Bool) (speed : Speed)
  | fiveTimes (forward : Bool) (speed : Speed)
  | wind (forward : Bool)
  deriving DecidableEq, Repr

/-- The loading motor. -/
inductive LoadingMotor where
  | off | towardThread | towardHalt
  deriving DecidableEq, Repr

/-- One row of the table of R1, with the carriage motor beside it. -/
structure Outputs where
  carriage : Carriage
  drum : Drum
  capstan : Capstan
  pinchEngaged : Bool
  brakeApplied : Bool
  loading : LoadingMotor
  recordEnable : Bool
  deriving DecidableEq, Repr

/-- The outputs in each mode (R1). -/
def outputs (m : Mech) : Outputs :=
  match m.mode with
  | .empty => ⟨.off, .off, .off, false, true, .off, false⟩
  | .loading => ⟨.inward, .off, .off, false, true, .off, false⟩
  | .halted => ⟨.off, .off, .off, false, true, .off, false⟩
  | .threading => ⟨.off, .runningUp, .off, false, true, .towardThread, false⟩
  | .ready => ⟨.off, .on, .off, false, true, .off, false⟩
  | .play => ⟨.off, .on, .at true m.capstan, true, false, .off, false⟩
  | .still => ⟨.off, .on, .off, true, true, .off, false⟩
  | .searchFwd => ⟨.off, .on, .fiveTimes true m.detected, true, false, .off, false⟩
  | .searchRev => ⟨.off, .on, .fiveTimes false m.detected, true, false, .off, false⟩
  | .recording => ⟨.off, .on, .at true m.recSpeed, true, false, .off, true⟩
  | .recPause => ⟨.off, .on, .off, true, true, .off, false⟩
  | .ff => ⟨.off, .off, .wind true, false, false, .off, false⟩
  | .rew => ⟨.off, .off, .wind false, false, false, .off, false⟩
  | .unthreading => ⟨.off, .off, .off, false, true, .towardHalt, false⟩
  | .ejecting => ⟨.outward, .off, .off, false, true, .off, false⟩
  | .fault => ⟨.off, .off, .off, false, true, .off, false⟩

/-! ### Mute (R186, R187) -/

/-- The mark hold names a live title flagged LOCKED (R187). -/
def holdNamesLocked (s : State) : Bool :=
  match s.lock.hold with
  | none => false
  | some h => !h.seen && (match titleBySlot s h.tag h.slot with
    | some (_, t) => t.locked
    | none => false)

/-- The current title is flagged LOCKED (R98, R186). -/
def currentLocked (s : State) : Bool :=
  match s.cat.current.bind (titleAt s) with
  | some t => t.locked
  | none => false

/-- The mute output (R186). -/
def mute (s : State) : Bool :=
  s.lock.state != .unlocked
    && ((s.mech.mode.tapeShown && currentLocked s) || (s.mech.mode.tapeShown && holdNamesLocked s)
        || (!s.mech.mode.tapeShown && s.tun.owner == .view && presetLocked s s.tun.source))

/-! ### Codes of 11.8 -/

/-- Mode. -/
def modeCode : Mode → Nat
  | .empty => 0
  | .loading => 1
  | .halted => 2
  | .threading => 3
  | .ready => 4
  | .play => 5
  | .still => 6
  | .searchFwd => 7
  | .searchRev => 8
  | .recording => 9
  | .recPause => 10
  | .ff => 11
  | .rew => 12
  | .unthreading => 13
  | .ejecting => 14
  | .fault => 15

/-- Speed. -/
def speedCode : Speed → Nat
  | .std => 0
  | .long => 1

/-- Speed of a title. -/
def titleSpeedCode : TitleSpeed → Nat
  | .std => 0
  | .long => 1
  | .mixed => 2

/-- Speed of a programme. -/
def progSpeedCode : ProgSpeed → Nat
  | .std => 0
  | .long => 1
  | .fit => 2

/-- Deck power state. -/
def powerCode : DeckPower → Nat
  | .off => 0
  | .on => 1
  | .timerStandby => 2

/-- Record cause. -/
def causeCode : Cause → Nat
  | .none => 0
  | .manual => 1
  | .external => 2
  | .programme n => 0x10 + n

/-- Counter mode. -/
def counterModeCode : CounterMode → Nat
  | .tape => 0
  | .zero => 1
  | .remain => 2

/-- Position quality, absent with no load. -/
def qualityCode : Option Place → Nat
  | none => 0
  | some ⟨_, .unanchored⟩ => 1
  | some ⟨_, .exact⟩ => 2
  | some ⟨_, .estimated⟩ => 3

/-- Load identity. -/
def identityCode : Identity → Nat
  | .none => 0
  | .asserted _ => 1
  | .read _ => 2

/-- Tuner owner. -/
def ownerCode : TunerOwner → Nat
  | .view => 0
  | .scan => 1
  | .record => 2
  | .timer => 3

/-- AFT state, in the order of 5.5. -/
def aftCode : AftState → Nat
  | .off => 0
  | .settling => 1
  | .locked => 2
  | .noSignal => 3
  | .limit => 4

/-- Lock state. -/
def lockCode : LockState → Nat
  | .none => 0
  | .locked => 1
  | .unlocked => 2
  | .frozen => 3

/-- Staged kind. -/
def stagedCode : Staged → Nat
  | .none => 0
  | .set _ _ => 1
  | .shift _ => 2

/-- Region of a wipe. -/
def regionCode : Region → Nat
  | .presets => 0
  | .programmes => 1
  | .catalogue => 2
  | .all => 3

/-- External record. -/
def extCode : External → Nat
  | .none => 0
  | .starting => 1
  | .recording => 2

/-- Thickness class. -/
def classCode : Thickness → Nat
  | .a => 0
  | .b => 1
  | .c => 2

/-- Line standard. -/
def standardCode : Standard → Nat
  | .s625 => 0
  | .s525 => 1

/-- Function of a function line. -/
def lineFnCode : LineFn → Nat
  | .none => 0
  | .extRec => 1
  | .timerKey => 2
  | .ejectKey => 3
  | .stopKey => 4

/-- Band. -/
def bandCode : Band → Nat
  | .low => 0
  | .high => 1
  | .uhf => 2

/-- Programme state, in the order of R143. -/
def progStateCode : ProgState → Nat
  | .empty => 0
  | .waiting => 1
  | .held => 2
  | .preroll => 3
  | .recording => 4
  | .done => 5
  | .disabled => 6

/-- Programme kind. -/
def kindCode : ProgKind → Nat
  | .once => 0
  | .daily => 1
  | .weekdays => 2
  | .weekly => 3

/-- Result (R196). -/
def answerCode : Result → Nat
  | .ok => 0x00
  | .accepted => 0x01
  | .notReady => 0x02
  | .short => 0x03
  | .unknown => 0x04
  | .range => 0x05
  | .state => 0x06
  | .busy => 0x07
  | .absent => 0x08
  | .full => 0x09
  | .locked => 0x0A
  | .frozen => 0x0B
  | .barred => 0x0C
  | .referenced => 0x0D
  | .sequence => 0x0E

/-! ### Flag bytes of the status snapshot -/

/-- A byte with bits that no layout assigns: those of the mask are free. Log entry 3. -/
def openFill (s : State) (place mask v : Nat) : Byte := b8 v ||| (s.openBits place &&& b8 mask)

/-- Byte 4: the transport flags. -/
def transportFlags (s : State) : Nat :=
  bitAt s.mech.noCtl 0 + bitAt s.mech.capstanLock 1 + bitAt s.mech.drumLock 2 + bitAt s.mech.dewLock 3
    + bitAt s.mech.stuck 4 + bitAt s.mech.tab 5 + bitAt s.pos.memoryStop 6 + bitAt s.pos.zero.isSome 7

/-- Byte 6: counter mode, quality and the three speeds. -/
def positionFlags (s : State) : Nat :=
  counterModeCode s.settings.counterMode + 4 * qualityCode s.pos.place + 16 * speedCode (currentSpeed s)
    + 32 * speedCode s.mech.detected + 64 * speedCode s.mech.recSpeed

/-- Byte 26: the clock's flags. -/
def clockFlags (h : Hold) : Nat := bitAt h.valid 0 + bitAt h.dst 1 + 4 * stagedCode h.staged

/-- Byte 31: the wipe, the search and the external record. -/
def activityFlags (s : State) : Nat :=
  (match s.store.wipe with
    | some w => regionCode w.region + 1
    | none => 0)
    + bitAt s.tun.scan.isSome 3 + 16 * extCode s.tim.ext

/-- The flags of a title record (11.8, byte 3). -/
def titleFlags (t : Title) : Nat :=
  bitAt t.isProtected 0 + bitAt t.locked 1 + bitAt t.incomplete 2 + bitAt t.noCue 3 + bitAt t.trimmed 4
    + bitAt (!t.anchored) 5 + bitAt t.isOpen 6

/-- The flags of an outcome (11.8, byte 23). -/
def outcomeFlags (f : OccFlags) : Nat := bitAt f.late 0 + bitAt f.switched 1 + bitAt f.fallback 2

end Sys2Proof.Machine
end

