-- ==== Sys2Proof/Machine/Layouts.lean ====
section
/-! DEFINITION. The layouts of 11.8: the data bytes of every answer that carries any. -/

namespace Sys2Proof.Machine

open Sys2Proof

/-- Text: a length byte followed by that many characters. -/
def textBytes (t : Text) : List Byte := b8 t.length :: t

/-- The bytes of an answer as a frame clocks them out (R195, 11.8): the result, the length, the data. -/
def Answer.bytes (a : Answer) : List Byte := b8 (answerCode a.result) :: b8 a.data.length :: a.data

/-- The first `n` bytes that the last frame clocked out (R195): the answer, and 0x00 for every further byte. -/
def clockedOut (s : State) (n : Nat) : List Byte :=
  match s.link.sent with
  | some a => (a.bytes ++ List.replicate n 0).take n
  | none => []

/-- "None" in a one-byte field is 0xFF. -/
def orNone (v : Option Nat) : Byte := b8 (v.getD 0xFF)

/-- Three bytes that carry a value, or nothing the layout states (log entry 3). -/
def openThree (s : State) (place : Nat) : Option Nat → List Byte
  | some v => be24 v
  | none => [s.openBits place, s.openBits (place + 1), s.openBits (place + 2)]

/-- The counter value: signed seconds; 0x800000 absent, 0x7FFFFF unknown. -/
def counterBytes : CounterValue → List Byte
  | .seconds v => be24 (twos 24 v)
  | .absent => be24 0x800000
  | .unknown => be24 0x7FFFFF

/-- P; 0x800000 absent. -/
def positionBytes (s : State) : List Byte := be24 ((position s).elim 0x800000 (twos 24))

/-- The remaining figure; 0xFFFFFF unknown. -/
def remainingBytes (s : State) : List Byte := be24 ((remaining s).elim 0xFFFFFF Int.toNat)

/-- Bytes 16 and 17: identity and tag. The four bits between them, and the tag bits with no tag, are open (log entry 3). -/
def identityBytes (s : State) : List Byte :=
  let c := identityCode s.cue.identity * 64
  match s.cue.identity.tag with
  | some t => [openFill s 16 0x3C (c + t / 256 % 4), b8 t]
  | none => [openFill s 16 0x3F c, s.openBits 17]

/-- The title index of a title in its cassette's list. -/
def titleIndex (s : State) (tag i : Nat) : Option Nat := (cassetteOf s tag).bind fun c => findFrom (· == i) c.titles 0

/-- Byte 18: the current title by slot, or by title index when it has no slot. -/
def currentByte (s : State) : Byte :=
  match s.cat.current.bind fun i => (titleAt s i).map fun t => (i, t) with
  | none => openFill s 18 0x7F 0
  | some (i, t) =>
    match t.slot with
    | some k => b8 (128 + k % 64)
    | none => b8 (128 + 64 + ((titleIndex s t.tag i).getD 0) % 64)

/-- Hours, minutes and seconds of a time of day. -/
def timeBytes (seconds : Nat) : List Byte := [b8 (seconds / 3600), b8 (seconds / 60 % 60), b8 (seconds % 60)]

/-- Bytes 0 to 15 of the status snapshot. -/
def statusTransport (s : State) : List Byte :=
  [b8 (powerCode s.hold.power), b8 (modeCode s.mech.mode),
    orNone (s.mech.target.map fun t => modeCode t.mode), b8 (outcomeCode s.mech.outcome), b8 (transportFlags s),
    orNone (s.mech.faultReason.map faultCode), openFill s 6 0x80 (positionFlags s)]
    ++ counterBytes (counterValue s) ++ positionBytes s ++ remainingBytes s

/-- Bytes 16 to 31 of the status snapshot. -/
def statusRest (s : State) : List Byte :=
  identityBytes s
    ++ [currentByte s, openFill s 19 0xC8 (16 * ownerCode s.tun.owner + aftCode s.tun.aft), b8 s.tun.source]
    ++ be16 s.hold.day ++ timeBytes s.hold.seconds
    ++ [openFill s 26 0xF0 (clockFlags s.hold), orNone (s.tim.run.map (·.slot)), orNone (nextProgramme s),
        b8 (lockCode s.lock.state), b8 (causeCode s.mech.cause), openFill s 31 0xC0 (activityFlags s)]

/-- The status snapshot (R200, 11.8). -/
def statusData (s : State) : List Byte := statusTransport s ++ statusRest s

/-- IDENT (R201, 11.8). -/
def identData : List Byte :=
  [b8 0x4B, b8 0x60, Config.revision, b8 Config.nPresets, b8 Config.nProgrammes, b8 Config.nCassettes]
    ++ be16 Config.nTitles ++ [b8 Config.nSlots, b8 Config.nDead]

/-- SETTINGS-READ (R201, 11.8). -/
def settingsData (k : Settings) : List Byte :=
  [b8 (standardCode k.standard), b8 (bitAt k.lockCode.isSome 0), b8 (lineFnCode k.line1), b8 (lineFnCode k.line2),
    b8 k.extSource, b8 (counterModeCode k.counterMode), b8 (bitAt k.autoRewind 0), b8 (speedCode k.recordSpeed),
    b8 k.lastViewed, b8 k.aftWindow, b8 (classCode k.defaultClass), b8 k.defaultSound] ++ be16 k.nextTag

/-- Bytes 10 to 13 of CLOCK-READ: the staged change. -/
def stagedBytes : Staged → List Byte
  | .none => [0, 0, 0, 0]
  | .set d sec => be16 d ++ [b8 (sec / 3600), b8 (sec / 60 % 60)]
  | .shift fwd => [b8 (bitAt (!fwd) 0), 0, 0, 0]

/-- CLOCK-READ (R134, 11.8). -/
def clockData (s : State) : List Byte :=
  let h := s.hold
  be16 h.day ++ [b8 (h.day % 7)] ++ timeBytes h.seconds ++ [openFill s 6 0xFC (bitAt h.valid 0 + bitAt h.dst 1)]
    ++ be16 (twos 16 h.trim) ++ [b8 (stagedCode h.staged)] ++ stagedBytes h.staged

/-- PRESET-READ (R106, 11.8). -/
def presetData (n : Nat) (p : Preset) : List Byte :=
  [b8 n, b8 (bitAt p.used 0 + 2 * bandCode p.band + bitAt p.aft 3 + bitAt p.skip 4 + bitAt p.locked 5 + 64 * p.sound)]
    ++ be16 p.base ++ [b8 (twos 8 p.fine)] ++ textBytes p.name

/-- Two minute indexes; 0xFFFFFFFF absent. -/
def occurrenceBytes : Option Occurrence → List Byte
  | some o => be32 o.start ++ be32 o.stop
  | none => be32 0xFFFFFFFF ++ be32 0xFFFFFFFF

/-- Bytes 2 to 11 of a programme record, which EDIT-OPEN answers with as well. -/
def editableBytes (s : State) (kind : ProgKind) (speed : ProgSpeed) (afterLast : Bool) (date start stop source target : Nat) :
    List Byte :=
  [openFill s 2 0xE0 (kindCode kind + 4 * progSpeedCode speed + bitAt afterLast 4)]
    ++ be16 date ++ be16 start ++ be16 stop ++ [b8 source] ++ be16 target

/-- PROGRAMME-READ (R144, 11.8). -/
def programmeData (s : State) (slot : Nat) (p : Programme) : List Byte :=
  [b8 slot, b8 (progStateCode p.state)]
    ++ editableBytes s p.kind p.speed p.afterLast p.date p.start p.stop p.source p.target
    ++ be16 (p.lastDay.getD 0xFFFF) ++ occurrenceBytes p.next
    ++ [b8 (resultCode p.outcome.result), openFill s 23 0xF8 (outcomeFlags p.outcome.flags)] ++ occurrenceBytes p.outcome.span

/-- EDIT-OPEN (R149, 11.8). -/
def editData (s : State) (e : Edit) : List Byte :=
  [b8 e.slot, b8 (bitAt e.enable 0)] ++ editableBytes s e.kind e.speed e.afterLast e.date e.start e.stop e.source e.target

/-- CASSETTE-LIST and CASSETTE-READ (R79, 11.8). -/
def cassetteData (s : State) (index : Nat) (c : Cassette) : List Byte :=
  be16 c.tag
    ++ [openFill s 2 0xF0 (classCode c.cls + bitAt c.total.isSome 2 + bitAt (s.cue.identity.tag == some c.tag) 3)]
    ++ openThree s 3 c.total ++ be32 c.registered ++ be32 c.lastLoaded
    ++ [b8 (titlesOf s c.tag).length, b8 c.dead.length, b8 index] ++ textBytes c.label

/-- Byte 4 of a title record: speed, origin and programme number; with no programme its number is open (log entry 3). -/
def originByte (s : State) (t : Title) : Byte :=
  match t.origin with
  | .manual => openFill s 4 0xF0 (titleSpeedCode t.speed)
  | .programme n => b8 (titleSpeedCode t.speed + 4 + 16 * n)
  | .external => openFill s 4 0xF0 (titleSpeedCode t.speed + 8)

/-- TITLE-READ, TITLE-READ-SLOT and TITLE-FIND (R84, R87, 11.8). -/
def titleData (s : State) (index : Nat) (t : Title) : List Byte :=
  be16 (t.tag * 64 + index % 64) ++ [b8 (t.slot.getD 0), openFill s 3 0x80 (titleFlags t), originByte s t]
    ++ be24 (twos 24 t.start) ++ be24 t.length ++ be24 (t.switchAt.getD 0xFFFFFF) ++ [b8 t.source]
    ++ be32 t.recordedAt ++ textBytes t.name

/-- The ten kinds in mask-bit order (11.8). -/
def NoticeKind.order : List NoticeKind :=
  [.power, .motion, .cassette, .timer, .catalogue, .tuner, .clock, .feed, .fault, .store]

/-- The kind mask: bit n stands for the n-th kind of the list given. -/
def noticeMask (n : NoticeSet) : List NoticeKind → Nat
  | [] => 0
  | k :: rest => bitAt (n.get k).isSome 0 + 2 * noticeMask n rest

/-- NOTICES (R198): the kind mask and three bytes for each kind present. A bit of the mask stands for three bytes that follow, so
bits 10 to 15, which stand for no kind, are clear. -/
def noticesData (s : State) : List Byte :=
  let n := s.link.notices
  be16 (noticeMask n NoticeKind.order)
    ++ (NoticeKind.order.filterMap n.get).zipIdx.flatMap fun (v, j) =>
      [b8 v.reason, b8 v.detail, openFill s (3 * j + 4) 0xFE (bitAt v.repeated 0)]

end Sys2Proof.Machine
end

