-- ==== Sys2Proof/Machine/Operands.lean ====
section
/-! DEFINITION. How a command is taken: a frame on the control link and its answer (R195, R196), an event of the deck, and
the checks of parameters that many requests share. -/

namespace Sys2Proof.Machine

open Sys2Proof

/-! ### Frames and events -/

/-- What a request does once its frame is taken: its answer, and the state it leaves. -/
abbrev Body := State → Answer × State

/-- The answer NOT-READY of a frame that finds the buffer pending (R195). -/
def notReadyAnswer : Answer := ⟨.notReady, []⟩

/-- The answer that a buffer clocks out (R195). -/
def Buffer.clocked : Buffer → Answer
  | .ready a => a
  | .pending => notReadyAnswer

/-- The frame begins: the buffer's answer is clocked out and a taken request leaves the buffer pending (R195). -/
def beginFrame (s : State) : State :=
  { s with agenda := [], link := { s.link with sent := some s.link.buffer.clocked, buffer := .pending } }

/-- The answer is decided (R195), and the prepared flag is left as the request leaves it: `prepares` for WIPE-PREPARE
alone (R192). -/
def decideAnswer (prepares : Bool) (a : Answer) (s : State) : State :=
  { s with
    link := { s.link with buffer := .ready a }
    store := { s.store with isPrepared := prepares } }

/-- A host request (R195): taken when main power is present and the buffer is ready; a frame that finds the buffer pending
clocks out NOT-READY and changes nothing else. -/
def request (prepares : Bool) (body : Body) (s : State) : State :=
  if !s.mainPower then s
  else
    match s.link.buffer with
    | .pending => s.onLink fun l => { l with sent := some notReadyAnswer }
    | .ready _ =>
      let r := body (beginFrame s)
      finish s (decideAnswer prepares r.1 r.2)

/-- An event of the deck that the controller acts on while main power is present; `pin` is the change of an input level
that it stands for. -/
def deckEvent (pin : State → State) (act : State → State) (s : State) : State :=
  let s' := pin s
  if s.mainPower then finish s (act { s' with agenda := [] }) else s'

/-! ### Answers and checks -/

/-- An answer with no data. -/
def answer (r : Result) (s : State) : Answer × State := (⟨r, []⟩, s)

/-- OK with no data. -/
def okay (s : State) : Answer × State := answer .ok s

/-- OK with data. -/
def okWith (data : List Byte) (s : State) : Answer × State := (⟨.ok, data⟩, s)

/-- The result of the first check that holds. -/
def firstHolding : List (Bool × Result) → Option Result
  | [] => none
  | (c, r) :: rest => if c then some r else firstHolding rest

/-- A request whose checks are made in order: the first that holds gives the answer and changes nothing. -/
def checked (checks : State → List (Bool × Result)) (body : Body) : Body := fun s =>
  match firstHolding (checks s) with
  | some r => answer r s
  | none => body s

/-- A request with a parameter that codes a few names (11.9): RANGE for a byte that codes none, judged by the request's own rule
(R196). Log entry 40 says before which other checks. -/
def chosen {α : Type} (c : Choice α) (body : α → Body) : Body :=
  match c with
  | .of v => body v
  | .other _ => answer .range

/-- A text parameter makes the parameter count exceed 30 (R196): `fixed` parameter bytes stand before its length byte. -/
def countAbove30 (fixed : Nat) (t : Text) : Bool := decide (30 < fixed + 1 + t.length)

/-- The text has at most `most` characters, each from 0x20 to 0x7E (Introduction, "Names"). -/
def textOk (most : Nat) (t : Text) : Bool := decide (t.length ≤ most) && t.all fun c => 0x20 ≤ c && c ≤ 0x7E

/-- A tag from 1 to 1023. -/
def tagOk (tag : Nat) : Bool := decide (1 ≤ tag) && decide (tag ≤ 1023)

/-- A cue-mark slot from 1 to 63. -/
def slotOk (slot : Nat) : Bool := decide (1 ≤ slot) && decide (slot ≤ 63)

/-- A lock code: four decimal digits (R181). -/
def codeOk (code : Nat) : Bool := decide (code ≤ 9999)

/-- The coding of NONE as a lock code parameter (11.8). -/
def codeNone : Nat := 0xFFFF

/-- A lock code parameter that may be NONE (R184). -/
def codeOrNone (code : Nat) : Bool := codeOk code || code == codeNone

/-- The preset is flagged locked and the lock is not open (R104, R106 to R110, R114). -/
def barredPreset (s : State) (n : Nat) : Bool := presetLocked s n && !unlocked s

/-- The deck power state is TIMER-STANDBY. -/
def standby (s : State) : Bool := s.hold.power == .timerStandby

/-- A preset number, coded as a source of the presets. -/
def presetOk (n : Nat) : Bool := isPreset n

/-- The cassette index of a tag (R72). -/
def cassetteIndex (s : State) (tag : Nat) : Nat := (findFrom (fun c => c.tag == tag) s.cat.cassettes 0).getD 0

/-- The checks of a tag parameter (4.4). -/
def tagChecks (s : State) (tag : Nat) : List (Bool × Result) :=
  [(!tagOk tag, .range), ((cassetteOf s tag).isNone, .absent)]

/-- A wipe of the CATALOGUE or ALL bars every request of the catalogue (R72). -/
def catalogueBusy (s : State) : List (Bool × Result) := [(wiping s .catalogue, .busy)]

/-- A title by its index in a cassette's list. -/
def titleByIndex (s : State) (tag index : Nat) : Option (Nat × Title) := (titlesOf s tag)[index]?

/-- A lock state that bars a LOCKED title or preset from a request of its own section (R185). -/
def lockBar : LockState → List (Bool × Result)
  | .none => [(true, .state)]
  | .locked => [(true, .locked)]
  | .frozen => [(true, .frozen)]
  | .unlocked => []

/-- The field codes of EDIT-SET with the ranges of their values (R149, R151). -/
def editFieldOk (field value : Nat) : Bool :=
  match field with
  | 0 => decide (value ≤ 1)
  | 1 => decide (value ≤ 3)
  | 2 => decide (value ≤ 36524)
  | 3 => decide (value ≤ 1439)
  | 4 => decide (value ≤ 1439)
  | 5 => isSource value
  | 6 => decide (value ≤ 2)
  | 7 => decide (value ≤ 1)
  | 8 => decide (value ≤ 1023)
  | _ => false

/-- A thickness class by its code. -/
def thicknessOf : Nat → Thickness
  | 0 => .a
  | 1 => .b
  | _ => .c

/-- A band by its code. -/
def Band.ofCode : Nat → Band
  | 0 => .low
  | 1 => .high
  | _ => .uhf

/-- A function of a line by its code. -/
def LineFn.ofCode : Nat → LineFn
  | 1 => .extRec
  | 2 => .timerKey
  | 3 => .ejectKey
  | 4 => .stopKey
  | _ => .none

/-- A programme kind by its code. -/
def ProgKind.ofCode : Nat → ProgKind
  | 0 => .once
  | 1 => .daily
  | 2 => .weekdays
  | _ => .weekly

/-- A programme speed by its code. -/
def ProgSpeed.ofCode : Nat → ProgSpeed
  | 0 => .std
  | 1 => .long
  | _ => .fit

/-- A region by its code. -/
def Region.ofCode : Nat → Region
  | 0 => .presets
  | 1 => .programmes
  | 2 => .catalogue
  | _ => .all

/-- The fields of a PRESET-WRITE record lie in their ranges (R99, R106). -/
def presetParamOk (p : PresetParam) : Bool :=
  decide (p.band ≤ 2) && decide (p.base ≤ 16383) && decide (-32 ≤ p.fine) && decide (p.fine ≤ 31) && decide (p.sound ≤ 3)
    && textOk 5 p.name

end Sys2Proof.Machine
end

