-- ==== Sys2Proof/Machine/Catalogue.lean ====
section
/-! DEFINITION. The host requests on cassettes and titles (4.4, 4.5). -/

namespace Sys2Proof.Machine

open Sys2Proof

/-! ### Cassettes -/

/-- CASSETTE-LIST (R79). -/
def execCassetteList (index : Nat) (s : State) : Host.Outcome State Fault Refusal :=
  .next (request false (checked catalogueBusy fun u =>
    match u.cat.cassettes[index]? with
    | some c => okWith (cassetteData u index c) u
    | none => answer .absent u) s)

/-- CASSETTE-READ (R79). -/
def execCassetteRead (tag : Nat) (s : State) : Host.Outcome State Fault Refusal :=
  .next (request false (checked (fun u => catalogueBusy u ++ tagChecks u tag) fun u =>
    match cassetteOf u tag with
    | some c => okWith (cassetteData u (cassetteIndex u tag) c) u
    | none => answer .absent u) s)

/-- CASSETTE-LABEL (R80). -/
def execCassetteLabel (tag : Nat) (text : Text) (s : State) : Host.Outcome State Fault Refusal :=
  .next (request false (checked
    (fun u => (countAbove30 2 text, .range) :: catalogueBusy u ++ tagChecks u tag ++ [(!textOk 10 text, .range)])
    fun u => okay (onCassette tag (fun c => { c with label := text }) u)) s)

/-- CASSETTE-CLASS (R80). -/
def execCassetteClass (tag cls : Nat) (s : State) : Host.Outcome State Fault Refusal :=
  .next (request false (checked
    (fun u => catalogueBusy u ++ tagChecks u tag ++ [(decide (2 < cls), .range)])
    fun u => okay (onCassette tag (fun c => { c with cls := thicknessOf cls }) u)) s)

/-- CASSETTE-REGISTER (R81). STATE, for a load that has its identity, comes before the BUSY of a recording (R62, log entry 52).
The titles-opened flag is clear at a registration (R81), so that a mark read under the new tag still names the cassette (R61). -/
def execCassetteRegister (s : State) : Host.Outcome State Fault Refusal :=
  .next (request false (checked
    (fun u => catalogueBusy u ++
      [(!loaded u || u.cue.identity != .none, .state), (u.cat.recording.isSome, .busy),
        (decide (Config.nCassettes ≤ u.cat.cassettes.length), .full)])
    fun u =>
      let u := createCassette (u.onCue fun c => { c with titlesOpened := false })
      okWith (be16 (u.cue.identity.tag.getD 0)) u) s)

/-- The identity is READ of any tag (R82). -/
def identityRead : Identity → Bool
  | .read _ => true
  | .asserted _ => false
  | .none => false

/-- CASSETTE-ASSIGN (R82). -/
def execCassetteAssign (tag : Nat) (s : State) : Host.Outcome State Fault Refusal :=
  .next (request false (checked
    (fun u => catalogueBusy u ++ (!loaded u, .state) :: tagChecks u tag ++
      [(u.cat.recording.isSome, .busy), (identityRead u.cue.identity, .state)])
    fun u => okay (setIdentity (.asserted tag) u)) s)

/-- Every title of a cassette leaves the this-load list and returns to the pool (R83, step 2). The titles are marked in
list order: the rule gives none. Log entry 75. -/
def freeTitles (tag : Nat) (s : State) : State :=
  let gone := (titlesOf s tag).map (·.1)
  let s := s.onCat fun c => { c with thisLoad := c.thisLoad.filter fun i => !gone.contains i }
  gone.foldl (fun acc i => setTitle i none acc) s

/-- CASSETTE-RETIRE (R83). -/
def execCassetteRetire (tag : Nat) (s : State) : Host.Outcome State Fault Refusal :=
  .next (request false (checked
    (fun u => catalogueBusy u ++ tagChecks u tag ++
      [((titlesOf u tag).any (·.2.isOpen) || (u.cue.identity.tag == some tag && u.cat.recording.isSome), .busy),
        ((titlesOf u tag).any (·.2.isProtected), .barred),
        ((titlesOf u tag).any (·.2.locked) && !unlocked u, .locked)])
    fun u =>
      let place := ((cassetteOf u tag).map (·.place)).getD 0
      let u := when (u.cue.identity.tag == some tag) (setIdentity .none) u
      let u := freeTitles tag u
      let u := u.onCat fun c => { c with cassettes := c.cassettes.filter fun d => d.tag != tag }
      okay (mark (.cassette place) u)) s)

/-! ### Titles -/

/-- TITLE-READ (R84). -/
def execTitleRead (tag index : Nat) (s : State) : Host.Outcome State Fault Refusal :=
  .next (request false (checked (fun u => catalogueBusy u ++ tagChecks u tag) fun u =>
    match titleByIndex u tag index with
    | some (_, t) => okWith (titleData u index t) u
    | none => answer .absent u) s)

/-- TITLE-READ-SLOT (R84): the tag is looked up before the slot is checked. Log entry 56. -/
def execTitleReadSlot (tag slot : Nat) (s : State) : Host.Outcome State Fault Refusal :=
  .next (request false (checked (fun u => catalogueBusy u ++ tagChecks u tag ++ [(!slotOk slot, .range)]) fun u =>
    match findFrom (fun x => x.2.slot == some slot) (titlesOf u tag) 0, titleBySlot u tag slot with
    | some index, some (_, t) => okWith (titleData u index t) u
    | _, _ => answer .absent u) s)

/-- TITLE-NAME (R85). A tag that no record holds is answered ABSENT before the text is judged. Log entry 56. -/
def execTitleName (tag index : Nat) (text : Text) (s : State) : Host.Outcome State Fault Refusal :=
  .next (request false (checked
    (fun u => (countAbove30 3 text, .range) :: catalogueBusy u ++ tagChecks u tag ++ [(!textOk 12 text, .range)])
    fun u =>
      match titleByIndex u tag index with
      | some (i, _) => okay (onTitle i (fun t => { t with name := text }) u)
      | none => answer .absent u) s)

/-- TITLE-PROTECT (R85, R97): the limit is compared again (R27). A value that is neither on nor off is RANGE once the cassette is
found (R196, log entry 40). -/
def execTitleProtect (tag index : Nat) (on : Choice Bool) (s : State) : Host.Outcome State Fault Refusal :=
  .next (request false (checked (fun u => catalogueBusy u ++ tagChecks u tag) (chosen on fun b u =>
    match titleByIndex u tag index with
    | some (i, t) =>
      if t.isOpen then answer .busy u
      else okay (push .limit (onTitle i (fun v => { v with isProtected := b }) u))
    | none => answer .absent u)) s)

/-- TITLE-RETIRE (R86). -/
def execTitleRetire (tag index : Nat) (s : State) : Host.Outcome State Fault Refusal :=
  .next (request false (checked (fun u => catalogueBusy u ++ tagChecks u tag) fun u =>
    match titleByIndex u tag index with
    | some (i, t) =>
      checked (fun v => [(t.isProtected, .barred), (t.locked && !unlocked v, .locked), (t.isOpen, .busy)])
        (fun v => okay (retireTitle true i v)) u
    | none => answer .absent u) s)

/-- A key of TITLE-FIND lies in its range (R87); a name prefix is a text, so each of its characters lies in 0x20 to 0x7E. Log
entry 55. -/
def findKeyOk : FindKey → Bool
  | .namePrefix t => textOk 12 t
  | .source n => n == 0 || isSource n
  | .other _ => false

/-- A title matches a key (R87). -/
def keyMatches (k : FindKey) (t : Title) : Bool :=
  match k with
  | .namePrefix p => p.isPrefixOf t.name
  | .source n => t.source == n
  | .other _ => false

/-- Every title of the catalogue with its index in its cassette's list, in the order of R87. -/
def allTitles (s : State) : List (Nat × Title) :=
  s.cat.cassettes.flatMap fun c =>
    let ts := (titlesOf s c.tag).map (·.2)
    (List.range ts.length).zip ts

/-- The first title after the cursor that matches the key (R87). -/
def titleAfter (tag index : Nat) (key : FindKey) (s : State) : Option (Nat × Title) :=
  (allTitles s).find? fun x =>
    (decide (tag < x.2.tag) || (x.2.tag == tag && decide (index < x.1))) && keyMatches key x.2

/-- The parameter count of TITLE-FIND exceeds 30 (R196). -/
def findCountAbove30 : FindKey → Bool
  | .namePrefix t => countAbove30 4 t
  | .source _ => false
  | .other _ => false

/-- TITLE-FIND (R87). -/
def execTitleFind (tag index : Nat) (key : FindKey) (s : State) : Host.Outcome State Fault Refusal :=
  .next (request false (checked
    (fun u => (findCountAbove30 key, .range) :: catalogueBusy u ++ [(!findKeyOk key || decide (1023 < tag), .range)])
    fun u =>
      match titleAfter tag index key u with
      | some (i, t) => okWith (titleData u i t) u
      | none => answer .absent u) s)

end Sys2Proof.Machine
end

