-- ==== Sys2Proof/Machine/Clock.lean ====
section
/-! DEFINITION. The clock and the hold domain (chapter 7): counting, the second event, and the clock's requests. -/

namespace Sys2Proof.Machine

open Sys2Proof

/-! ### Forming a new time (R131, R132, R139) -/

/-- Day and seconds of day after a count-up (R131). -/
def Hold.countUp (h : Hold) : Nat × Nat :=
  if h.seconds + 1 < 86400 then (h.day, h.seconds + 1) else (min (h.day + 1) Config.lastDay, 0)

/-- The count-up would pass the end of the range (R132). -/
def Hold.rangeEnds (h : Hold) : Bool := decide (86400 ≤ h.seconds + 1) && decide (Config.lastDay ≤ h.day)

/-- A time moved by an hour: day and seconds, signed, so that the check of R137 sees a day below 0 (R139). -/
def shiftTime (forward : Bool) (day seconds : Nat) : Int × Nat :=
  if forward then if 86400 ≤ seconds + 3600 then (day + 1, seconds + 3600 - 86400) else (day, seconds + 3600)
  else if seconds < 3600 then (day - 1, seconds + 86400 - 3600) else (day, seconds - 3600)

/-- A staged SET must be dropped (R139). With main power absent no programme runs. -/
def setBarred (s : State) : Bool := standby s || (s.mainPower && running s)

/-- The clock counts up (R131), the valid flag going off at the end of the range (R132). RANGE-END is raised as the flag goes off, and
not where it is off already, the first time included. Log entry 69. -/
def countUp (s : State) : State :=
  let h := s.hold
  let s' := s.onHold fun k => { k with day := h.countUp.1, seconds := h.countUp.2, valid := h.valid && !h.rangeEnds }
  when (s.mainPower && h.rangeEnds && h.valid) (raise .clock rangeEndReason 0) s'

/-- The new time of a second event (R131, R139), and whether a staged change was applied. -/
def formTime (s : State) : Bool × State :=
  match s.hold.staged with
  | .none => (false, countUp s)
  | .set day seconds =>
    let s := s.onHold fun h => { h with staged := .none }
    if setBarred s then (false, when s.mainPower (raise .clock setDroppedReason 0) (countUp s))
    else (true, when s.mainPower (raise .clock clockSetReason 0)
      (s.onHold fun h => { h with day := day, seconds := seconds, valid := true }))
  | .shift forward =>
    let s := countUp (s.onHold fun h => { h with staged := .none })
    let t := shiftTime forward s.hold.day s.hold.seconds
    (true, when s.mainPower (raise .clock clockShiftReason 0)
      (s.onHold fun h => { h with day := t.1.toNat, seconds := t.2, dst := !h.dst }))

/-- The second boundary in the counter (R130): the trim that stands as a final second begins is kept for it. -/
def Hold.boundary (h : Hold) : Hold :=
  let next := if h.periodSecond + 1 < Config.trimPeriod then h.periodSecond + 1 else 0
  { h with count := 0, periodSecond := next, secondTrim := if next = 599 then h.trim else h.secondTrim }

/-- The length of the present second in crystal counts (R130). -/
def Hold.secondLength (h : Hold) : Int :=
  if h.periodSecond = 599 then Config.countsPerSecond + h.secondTrim else Config.countsPerSecond

/-- The lowest start index that a second event reaches, `before` being now as it stood before it: after a change of the clock
every start at or below now is reached anew. -/
def startEdge (applied : Bool) (before : Nat) : Nat := if applied then 0 else before + 1

/-- A second event (R131, R148, R164): while main power is present it is handed to the timer engine. -/
def secondEvent (s : State) : State :=
  let s := { s.onHold Hold.boundary with agenda := [] }
  let (applied, s1) := formTime s
  if s.mainPower then evaluate (some (startEdge applied s.hold.now)) (when applied reexamine s1) else s1

/-- The second boundary as a step (R130, R131). A hold domain that has lost its contents counts nothing. -/
def boundaryStep (s : State) : State :=
  if !s.hold.intact then s else if s.mainPower then finish s (secondEvent s) else secondEvent s

/-- One crystal count (R130). What comes after it does not arrive together with a memory-stop crossing before it (R37). Log
entry 73. -/
def crystalCount (s : State) : State :=
  let s := s.noteCrossing false
  if !s.hold.intact then s
  else if ((s.hold.count + 1 : Nat) : Int) < s.hold.secondLength then s.onHold fun h => { h with count := h.count + 1 }
  else boundaryStep s

/-- SECOND-EVENT (R131): the crystal count that ends the present second. -/
def execSecondEvent (s : State) : Host.Outcome State Fault Refusal := .next (boundaryStep s)

/-- TRANSPORT-FREE-EVALUATION (R164, R165): the evaluation of the WAITING and HELD programmes that the transport's becoming
free asks for. Log entry 6. -/
def execTransportFreeEvaluation (s : State) : Host.Outcome State Fault Refusal :=
  .next (deckEvent id (fun u =>
    if u.tim.freeDue && transportFree u && u.hold.valid then waitingRule u
    else u.onTim fun t => { t with freeDue := false }) s)

/-! ### Requests (R134 to R137) -/

/-- CLOCK-READ (R134). -/
def execClockRead (s : State) : Host.Outcome State Fault Refusal :=
  .next (request false (fun u => okWith (clockData u) u) s)

/-- CLOCK-SET (R136). -/
def execClockSet (day hours minutes seconds : Nat) (s : State) : Host.Outcome State Fault Refusal :=
  .next (request false (checked
    (fun u => [(decide (Config.lastDay < day) || decide (23 < hours) || decide (59 < minutes) || decide (59 < seconds), .range),
      (standby u, .state), (running u, .busy)])
    fun u => answer .accepted (u.onHold fun h =>
      { h with staged := .set day (hours * 3600 + minutes * 60 + seconds) })) s)

/-- The shifted time of the next second event would leave the range of days (R137, check 3). -/
def shiftLeavesRange (forward : Bool) (h : Hold) : Bool :=
  let day := (shiftTime forward h.countUp.1 h.countUp.2).1
  h.rangeEnds || decide (day < 0) || decide ((Config.lastDay : Int) < day)

/-- CLOCK-SHIFT (R137). -/
def execClockShift (dir : Nat) (s : State) : Host.Outcome State Fault Refusal :=
  .next (request false (checked
    (fun u => [(decide (1 < dir), .range), (!u.hold.valid, .state), (shiftLeavesRange (dir == 0) u.hold, .range)])
    fun u => answer .accepted (u.onHold fun h => { h with staged := .shift (dir == 0) })) s)

/-- CLOCK-TRIM (R135). -/
def execClockTrim (c : Int) (s : State) : Host.Outcome State Fault Refusal :=
  .next (request false (fun u => okay (u.onHold fun h => { h with trim := clampI (-255) 255 c })) s)

end Sys2Proof.Machine
end

