-- ==== Sys2Proof/Machine/Programme.lean ====
section
/-! DEFINITION. The programme requests (8.3, 8.4), the deck power state (8.5), and the external recording (9.7). -/

namespace Sys2Proof.Machine

open Sys2Proof

/-! ### Common checks (R144) -/

/-- Check 1 of R144. -/
def programmesBusy (s : State) : List (Bool × Result) := [(wiping s .programmes, .busy)]

/-- A slot number lies in 0 to 15. -/
def progSlotOk (slot : Nat) : Bool := decide (slot < Config.nProgrammes)

/-- Checks 1 to 3 of R144. -/
def programmeChecks (slot : Nat) (s : State) : List (Bool × Result) :=
  programmesBusy s ++ [(!progSlotOk slot, .range), (standby s, .state)]

/-- The state of a slot. -/
def progState (s : State) (slot : Nat) : ProgState := ((progAt s slot).map (·.state)).getD .empty

/-- The slot is in PREROLL or RECORDING. -/
def slotRuns (s : State) (slot : Nat) : Bool := progState s slot == .preroll || progState s slot == .recording

/-! ### The edit buffer (R149 to R153) -/

/-- The editable fields of a programme (R149), as they stand: of an EMPTY slot the source that a PRESET-SWAP has left there. Log
entry 65. -/
def Programme.edit (slot : Nat) (p : Programme) : Edit :=
  ⟨slot, p.state != .disabled, p.kind, p.date, p.start, p.stop, p.source, p.speed, p.afterLast, p.target⟩

/-- EDIT-OPEN (R149). -/
def execEditOpen (slot : Nat) (s : State) : Host.Outcome State Fault Refusal :=
  .next (request false (checked (fun u => programmeChecks slot u ++ [(u.tim.edit.isSome, .state)])
    fun u =>
      let e := ((progAt u slot).getD .factory).edit slot
      okWith (editData u e) (u.onTim fun t => { t with edit := some e })) s)

/-- The stop index that EDIT-OPEN(NEW) orders DONE slots by: one more than the index, or 0 with none (R150). -/
def doneOrder (p : Programme) : Nat := (p.outcome.span.map fun (o : Occurrence) => o.stop + 1).getD 0

/-- The DONE slot with the lowest stop index, the lowest slot among equals (R150). -/
def oldestDone : List (Nat × Programme) → Option (Nat × Programme)
  | [] => none
  | x :: rest =>
    match oldestDone rest with
    | some y => if x.2.state = .done ∧ doneOrder x.2 ≤ doneOrder y.2 then some x else some y
    | none => if x.2.state = .done then some x else none

/-- The slot that EDIT-OPEN(NEW) takes (R150). -/
def newSlot (s : State) : Option Nat :=
  match (slots s).find? fun x => x.2.state == .empty with
  | some (n, _) => some n
  | none => (oldestDone (slots s)).map (·.1)

/-- The record speed setting as a programme speed. -/
def progSpeedOf : Speed → ProgSpeed
  | .std => .std
  | .long => .long

/-- EDIT-OPEN(NEW) (R150). -/
def execEditOpenNew (s : State) : Host.Outcome State Fault Refusal :=
  .next (request false (checked
    (fun u => programmesBusy u ++ [(standby u, .state), (u.tim.edit.isSome, .state), ((newSlot u).isNone, .full)])
    fun u =>
      let e : Edit := ⟨(newSlot u).getD 0, true, .once, u.hold.day, 0, 0, u.settings.lastViewed,
        progSpeedOf u.settings.recordSpeed, false, 0⟩
      okWith (editData u e) (u.onTim fun t => { t with edit := some e })) s)

/-- A field of the buffer takes a value in its range (R151). -/
def Edit.set (e : Edit) (field value : Nat) : Edit :=
  match field with
  | 0 => { e with enable := value == 1 }
  | 1 => { e with kind := ProgKind.ofCode value }
  | 2 => { e with date := value }
  | 3 => { e with start := value }
  | 4 => { e with stop := value }
  | 5 => { e with source := value }
  | 6 => { e with speed := ProgSpeed.ofCode value }
  | 7 => { e with afterLast := value == 1 }
  | 8 => { e with target := value }
  | _ => e

/-- EDIT-SET (R151). -/
def execEditSet (field value : Nat) (s : State) : Host.Outcome State Fault Refusal :=
  .next (request false (checked
    (fun u => programmesBusy u ++ [(u.tim.edit.isNone, .state), (!editFieldOk field value, .range)])
    fun u => okay (u.onTim fun t => { t with edit := t.edit.map fun e => e.set field value })) s)

/-- Kind, date or start differ from the slot's (R152, R153). -/
def Edit.newRun (e : Edit) (p : Programme) : Bool := e.kind != p.kind || e.date != p.date || e.start != p.start

/-- The programme that step 1 and the last-day clause of step 2 of R153 leave. -/
def Edit.written (e : Edit) (p : Programme) : Programme :=
  { p with
    kind := e.kind, date := e.date, start := e.start, stop := e.stop, source := e.source, speed := e.speed
    afterLast := e.afterLast, target := e.target
    lastDay := if e.newRun p then none else p.lastDay }

/-- The running occurrence with its stop worked out afresh (R152, R153). -/
def Occurrence.restop (start stop : Nat) (o : Occurrence) : Occurrence :=
  { o with stop := o.start + (stop + 1440 - start) % 1440 }

/-- Check 5 of R152. -/
def Edit.noRun (e : Edit) (p : Programme) (runs : Bool) (h : Hold) : Bool :=
  if runs then
    match p.next with
    | some o => decide ((o.restop p.start e.stop).stop ≤ h.now)
    | none => true
  else e.enable && ((e.written p).nextOccurrence h.day h.now).isNone

/-- A field other than the stop differs from the slot's (R152, check 6). -/
def Edit.differs (e : Edit) (p : Programme) : Bool := { e with stop := p.stop } != p.edit e.slot

/-- Checks 1 to 6 of R152. -/
def commitChecks (e : Edit) (s : State) : List (Bool × Result) :=
  let p := (progAt s e.slot).getD .factory
  let runs := slotRuns s e.slot
  [(e.stop == e.start, .range), (presetEmpty s e.source, .absent), (barredPreset s e.source, .locked),
    (e.target != 0 && (cassetteOf s e.target).isNone, .absent), (e.noRun p runs s.hold, .range),
    (runs && e.differs p, .busy)]

/-- The record a commit leaves (R153). -/
def Edit.committed (e : Edit) (p : Programme) (runs : Bool) (h : Hold) : Programme :=
  let q := e.written p
  let q := if e.newRun p || p.state == .empty then { q with outcome := .clear } else q
  if runs then { q with next := q.next.map (Occurrence.restop q.start q.stop) }
  else if e.enable then { q with state := .waiting, next := q.nextOccurrence h.day h.now }
  else { q with state := .disabled, next := none }

/-- Two occurrences overlap (R153). -/
def Occurrence.overlaps (a b : Occurrence) : Bool := decide (a.start < b.stop) && decide (b.start < a.stop)

/-- The programme is in use and holds an occurrence that overlaps one (R153). -/
def overlapping (o : Occurrence) (p : Programme) : Bool :=
  (p.waits || p.state == .preroll || p.state == .recording) && (match p.next with
    | some q => o.overlaps q
    | none => false)

/-- The overlap list (R153). -/
def overlapList (slot : Nat) (s : State) : List Nat :=
  match (progAt s slot).bind (·.next) with
  | some o => ((slots s).filter fun x => x.1 != slot && overlapping o x.2).map (·.1)
  | none => []

/-- EDIT-COMMIT (R152, R153). -/
def execEditCommit (s : State) : Host.Outcome State Fault Refusal :=
  .next (request false (checked (fun u => programmesBusy u) fun u =>
    match u.tim.edit with
    | none => answer .state u
    | some e => checked (commitChecks e) (fun v =>
        let p := (progAt v e.slot).getD .factory
        let v := setProg e.slot (e.committed p (slotRuns v e.slot) v.hold) v
        let v := v.onTim fun t => { t with edit := none }
        let list := overlapList e.slot v
        okWith (b8 e.slot :: b8 list.length :: list.map b8) v) u) s)

/-- EDIT-DISCARD (R149). -/
def execEditDiscard (s : State) : Host.Outcome State Fault Refusal :=
  .next (request false (checked (fun u => programmesBusy u ++ [(u.tim.edit.isNone, .state)])
    fun u => okay (u.onTim fun t => { t with edit := none })) s)

/-! ### Programmes (R144, R154 to R156) -/

/-- PROGRAMME-READ (R144). -/
def execProgrammeRead (slot : Nat) (s : State) : Host.Outcome State Fault Refusal :=
  .next (request false (checked (fun u => programmesBusy u ++ [(!progSlotOk slot, .range)])
    fun u => okWith (programmeData u slot ((progAt u slot).getD .factory)) u) s)

/-- PROGRAMME-ENABLE (R155). -/
def execProgrammeEnable (slot : Nat) (s : State) : Host.Outcome State Fault Refusal :=
  .next (request false (checked
    (fun u => programmeChecks slot u ++ [(slotRuns u slot, .busy), (progState u slot == .empty, .absent)])
    fun u =>
      let p := (progAt u slot).getD .factory
      if p.waits then okay u
      else checked (fun v =>
          [(presetEmpty v p.source, .absent), (p.target != 0 && (cassetteOf v p.target).isNone, .absent),
            ((p.nextOccurrence v.hold.day v.hold.now).isNone, .range)])
        (fun v => okay (setProg slot { p with state := .waiting, next := p.nextOccurrence v.hold.day v.hold.now } v)) u) s)

/-- PROGRAMME-DISABLE (R154). -/
def execProgrammeDisable (slot : Nat) (s : State) : Host.Outcome State Fault Refusal :=
  .next (request false (checked
    (fun u => programmeChecks slot u ++ [(slotRuns u slot, .busy), (progState u slot == .empty, .absent)])
    fun u => okay (if progState u slot = .disabled then u
      else onProg slot (fun p => { p with state := .disabled, next := none }) u)) s)

/-- PROGRAMME-CLEAR (R156). -/
def execProgrammeClear (slot : Nat) (s : State) : Host.Outcome State Fault Refusal :=
  .next (request false (checked (fun u => programmeChecks slot u ++ [(slotRuns u slot, .busy)])
    fun u => okay (setProg slot .factory u)) s)

/-! ### Deck power (R157 to R160) -/

/-- POWER (R158); a value that is neither on nor off is RANGE (R196, log entry 40). -/
def execPower (on : Choice Bool) (s : State) : Host.Outcome State Fault Refusal :=
  .next (request false (chosen on fun b => checked (fun u => [(standby u, .state)]) fun u =>
    match b, u.hold.power with
    | true, _ => okay (setPower .on u)
    | false, .on => okay (deckOff u)
    | false, _ => okay u) s)

/-- Some programme is WAITING or HELD. -/
def someWait (s : State) : Bool := s.tim.programmes.any Programme.waits

/-- The steps of TIMER-ARM (R158). -/
def armDeck (s : State) : State :=
  match s.hold.power with
  | .on =>
    let s := haltTransport (setPower .timerStandby (stopScan s))
    closeLock (when (s.tun.owner == .record || s.tun.owner == .timer) giveBack s)
  | .off => closeLock (setPower .timerStandby s)
  | .timerStandby => s

/-- TIMER-ARM, as a request and as a key edge (R158). -/
def armBody : Body := fun s =>
  if standby s then okay s
  else checked (fun u =>
    [(!u.hold.valid, .state), (!someWait u, .state), (u.tim.edit.isSome, .state), (running u, .busy)])
    (fun u => okay (armDeck u)) s

/-- TIMER-DISARM, as a request and as a key edge (R159). -/
def disarmBody : Body := checked (fun u => [(u.hold.power == .on, .state)]) fun u =>
  okay (when (standby u) deckOff u)

/-- TIMER-ARM (R158). -/
def execTimerArm (s : State) : Host.Outcome State Fault Refusal := .next (request false armBody s)

/-- TIMER-DISARM (R159). -/
def execTimerDisarm (s : State) : Host.Outcome State Fault Refusal := .next (request false disarmBody s)

/-- What a TIMER-KEY edge does (R159). -/
def timerKeyAct (s : State) : State :=
  if standby s then raise .power disarmedReason 0 (disarmBody s).2
  else
    let r := armBody s
    if r.1.result = .ok then raise .power armedReason 0 r.2 else raise .power keyRefusedReason 0 s

/-- A falling edge of a TIMER-KEY line (R159). -/
def execTimerKeyEdge (s : State) : Host.Outcome State Fault Refusal :=
  .next (if lineAssigned s .timerKey then deckEvent (setLine .timerKey true) timerKeyAct s else s)

/-! ### External recording (9.7) -/

/-- The conditions on which a falling edge is taken (R176). -/
def extTaken (s : State) : Bool :=
  s.tim.ext == .none && !running s && !s.pins.powerWarning
    && (s.mech.mode == .halted || s.mech.mode == .ready)
    && (standby s || (s.hold.power == .on && transportFree s)) && !s.mech.dewLock && s.mech.tab

/-- A falling edge of an EXT-REC line acts (R176). -/
def extFalls (s : State) : State :=
  if extTaken s then
    let s := s.onTim fun t => { t with ext := .starting }
    timerTarget .recording (claimTuner s.settings.extSource s)
  else extBareNotice extIgnoredReason s

/-- A rising edge of an EXT-REC line acts (R177). A handover is looked for while the clock is valid (R133). -/
def extRises (s : State) : State :=
  match s.tim.ext with
  | .none => s
  | .starting => timerTarget .ready (endExternal .aborted s)
  | .recording =>
    let (made, u) := if s.hold.valid then lookForHandover s else (false, s)
    -- the mode changes after the external record has become none (R28, steps 4 and 6)
    if made then u else changeMode .ready (endExternal .complete (endRecording .complete .complete u))

/-- A falling edge of an EXT-REC line (R176). -/
def execExtRecFallingEdge (s : State) : Host.Outcome State Fault Refusal :=
  .next (if lineAssigned s .extRec then deckEvent (setLine .extRec true) extFalls s else s)

/-- A rising edge of an EXT-REC line (R177). -/
def execExtRecRisingEdge (s : State) : Host.Outcome State Fault Refusal :=
  .next (if lineAssigned s .extRec then deckEvent (setLine .extRec false) extRises s else s)

end Sys2Proof.Machine
end

