-- ==== Sys2Proof/Machine/Link.lean ====
section
/-! DEFINITION. The requests that the link interface answers itself (chapter 11). The soft reset stands with the power
events. -/

namespace Sys2Proof.Machine

open Sys2Proof

/-- NULL (R195). -/
def execNull (s : State) : Host.Outcome State Fault Refusal := .next (request false okay s)

/-- NOTICES (R198). -/
def execNotices (s : State) : Host.Outcome State Fault Refusal :=
  .next (request false (fun u => okWith (noticesData u) (u.onLink fun l => { l with notices := .empty })) s)

/-- STATUS (R200). -/
def execStatus (s : State) : Host.Outcome State Fault Refusal :=
  .next (request false (fun u => okWith (statusData u) u) s)

/-- FEED (R199). -/
def execFeed (on : Choice Bool) (s : State) : Host.Outcome State Fault Refusal :=
  .next (request false (chosen on fun b u => okay (u.onLink fun l => { l with feed := b })) s)

/-- IDENT (R201). -/
def execIdent (s : State) : Host.Outcome State Fault Refusal := .next (request false (okWith identData) s)

/-- SETTINGS-READ (R201). -/
def execSettingsRead (s : State) : Host.Outcome State Fault Refusal :=
  .next (request false (fun u => okWith (settingsData u.settings) u) s)

/-! ### SETTING (R201) -/

/-- The refusals of an item with a value, in the order of its row in the table of R201. An item outside the table, and a
value that its coding does not name, are answered RANGE, the RANGE of LINE-STANDARD before its STATE. Log entry 40. -/
def settingChecks (item value : Nat) (s : State) : List (Bool × Result) :=
  match item with
  | 0 => [(decide (1 < value), .range), (s.mech.mode != .empty, .state)]
  | 1 => [(decide (1 < value), .range)]
  | 2 => [(!isSource value, .range), (presetEmpty s value, .absent), (wiping s .presets, .busy)]
  | 3 => []
  | 4 => [(decide (2 < value), .range)]
  | 5 => [(decide (3 < value), .range)]
  | _ => [(true, .range)]

/-- The field of SETTINGS that an item writes (R201). -/
def Settings.write (item value : Nat) (k : Settings) : Settings :=
  match item with
  | 0 => { k with standard := if value = 0 then .s625 else .s525 }
  | 1 => { k with autoRewind := value == 1 }
  | 2 => { k with extSource := value }
  | 3 => { k with aftWindow := min 40 (max 4 value) }
  | 4 => { k with defaultClass := thicknessOf value }
  | 5 => { k with defaultSound := value }
  | _ => k

/-- A default sound system written by SETTING reaches the outputs at once while a search runs (R128). -/
def soundToSearch (item : Nat) (s : State) : State :=
  when (item == 5 && s.tun.owner == .scan) (onWorking fun w => { w with sound := s.settings.defaultSound }) s

/-- SETTING (R201). -/
def execSetting (item value : Nat) (s : State) : Host.Outcome State Fault Refusal :=
  .next (request false (checked (settingChecks item value) fun u =>
    okay (soundToSearch item (setSettings (Settings.write item value) u))) s)

/-! ### LINE-FUNCTION (R203) -/

/-- The function of a line. -/
def lineFn (k : Settings) (line : Nat) : LineFn := if line = 1 then k.line1 else k.line2

/-- LINE-FUNCTION (R203): taking EXT-REC from its line ends an external recording as a rising edge would. -/
def execLineFunction (line fn : Nat) (s : State) : Host.Outcome State Fault Refusal :=
  .next (request false (checked
    (fun u => [((line != 1 && line != 2) || decide (4 < fn), .range),
      (fn != 0 && lineFn u.settings (3 - line) == LineFn.ofCode fn, .state)])
    fun u =>
      let f := LineFn.ofCode fn
      let u := when (lineFn u.settings line == .extRec && f != .extRec) extRises u
      okay (setSettings (fun k => if line = 1 then { k with line1 := f } else { k with line2 := f }) u)) s)

/-! ### Frames that are not taken (R195) -/

/-- A frame too short for its parameters: it is discarded, and a ready buffer becomes ready with SHORT. The prepared flag is
left as it is (R192). -/
def execShortFrame (s : State) : Host.Outcome State Fault Refusal :=
  .next (if !s.mainPower then s
    else match s.link.buffer with
      | .pending => s.onLink fun l => { l with sent := some notReadyAnswer }
      | .ready a => s.onLink fun l => { l with sent := some a, buffer := .ready ⟨.short, []⟩ })

/-- A frame that found the buffer pending: NOT-READY is clocked out, and its bytes are discarded. -/
def execNotReadyFrame (s : State) : Host.Outcome State Fault Refusal :=
  .next (if s.mainPower then s.onLink fun l => { l with sent := some notReadyAnswer } else s)

end Sys2Proof.Machine
end

