-- ==== Sys2Proof/Machine/Tuner.lean ====
section
/-! DEFINITION. The requests of the tuning unit (chapter 5), the station search (chapter 6) and the tuner's 20 ms events. -/

namespace Sys2Proof.Machine

open Sys2Proof

/-! ### Common checks (R100) -/

/-- Check 1 of R100. -/
def presetsBusy (s : State) : List (Bool × Result) := [(wiping s .presets, .busy)]

/-- Checks 1, 3 and 4 of R100, `ok` telling whether the parameters lie in their ranges. -/
def presetChecks (ok : Bool) (s : State) : List (Bool × Result) :=
  presetsBusy s ++ [(!ok, .range), (standby s, .state)]

/-- Checks 1 to 4 of R100, for the requests that a wipe of the programmes bars as well. -/
def presetProgrammeChecks (ok : Bool) (s : State) : List (Bool × Result) :=
  presetsBusy s ++ [(wiping s .programmes, .busy), (!ok, .range), (standby s, .state)]

/-- The owner is not VIEW (R115). -/
def notView (s : State) : Bool := s.tun.owner != .view

/-- The preset is the current source while the owner is not VIEW (R106, R108, R109). -/
def inUse (s : State) (n : Nat) : Bool := s.tun.source == n && notView s

/-! ### Selecting a source -/

/-- Steps 1 to 5 of R104. -/
def tuneView (n : Nat) (s : State) : State := setSettings (fun k => { k with lastViewed := n }) (tuneTo n s)

/-- TUNE (R104). -/
def execTune (source : Nat) (s : State) : Host.Outcome State Fault Refusal :=
  .next (request false (checked
    (fun u => presetsBusy u ++
      [(!isSource source, .range), (u.hold.power != .on, .state), (notView u, .busy), (presetEmpty u source, .absent),
        (barredPreset u source, .locked)])
    fun u => okay (tuneView source u)) s)

/-- The preset next to one in a direction, round the ends (R105). -/
def stepFrom : StepDir → Nat → Nat
  | .up, n => if 99 ≤ n then 1 else n + 1
  | .down, n => if n ≤ 1 then 99 else n - 1

/-- The starting number of a step (R105). -/
def stepStart (dir : StepDir) (s : State) : Nat :=
  if isPreset s.tun.source then s.tun.source
  else if isPreset s.settings.lastViewed then s.settings.lastViewed
  else match dir with
    | .up => 99
    | .down => 1

/-- A preset that a step takes (R105). -/
def stepTakes (s : State) (n : Nat) : Bool :=
  match presetAt s n with
  | some p => p.used && !p.skip && !(p.locked && !unlocked s)
  | none => false

/-- The first preset that a step takes, in a number of trials (R105). -/
def findStep (dir : StepDir) (s : State) : Nat → Nat → Option Nat
  | 0, _ => none
  | k + 1, n => if stepTakes s (stepFrom dir n) then some (stepFrom dir n) else findStep dir s k (stepFrom dir n)

/-- The direction that a code names (11.9). -/
def stepDir (code : Nat) : StepDir := if code = 0 then .up else .down

/-- TUNE-STEP (R105), checked by R100 first: its direction is a field with a range. -/
def execTuneStep (dir : Nat) (s : State) : Host.Outcome State Fault Refusal :=
  .next (request false (checked
    (fun u => presetsBusy u ++ [(decide (1 < dir), .range), (u.hold.power != .on, .state), (notView u, .busy)])
    fun u =>
      match findStep (stepDir dir) u Config.nPresets (stepStart (stepDir dir) u) with
      | some n => okWith [b8 n] (tuneView n u)
      | none => answer .absent u) s)

/-! ### Presets -/

/-- PRESET-READ (R106). -/
def execPresetRead (n : Nat) (s : State) : Host.Outcome State Fault Refusal :=
  .next (request false (checked (fun u => presetsBusy u ++ [(!presetOk n, .range)])
    fun u => okWith (presetData n ((presetAt u n).getD .factory)) u) s)

/-- The record that PRESET-WRITE leaves in place of an old one (R106). -/
def presetRecord (p : PresetParam) (old : Preset) : Preset :=
  ⟨true, Band.ofCode p.band, p.base, p.fine, p.aft, p.sound, p.skip, old.locked, p.name⟩

/-- PRESET-WRITE (R106). -/
def execPresetWrite (n : Nat) (p : PresetParam) (s : State) : Host.Outcome State Fault Refusal :=
  .next (request false (checked
    (fun u => (countAbove30 5 p.name, .range) :: presetChecks (presetOk n && presetParamOk p) u ++
      [(barredPreset u n, .locked), (inUse u n, .busy)])
    fun u => okay (changePreset n (presetRecord p ((presetAt u n).getD .factory)) u)) s)

/-- The record that PRESET-STORE-CURRENT leaves in place of an old one (R107). -/
def Working.stored (w : Working) (old : Preset) : Preset :=
  ⟨true, w.band, w.word.toNat, 0, w.aft, w.sound, false, old.locked, if old.used then old.name else []⟩

/-- PRESET-STORE-CURRENT (R107). -/
def execPresetStoreCurrent (n : Nat) (s : State) : Host.Outcome State Fault Refusal :=
  .next (request false (checked
    (fun u => presetChecks (presetOk n) u ++
      [(u.hold.power != .on || isLine u.tun.source, .state), (notView u, .busy), (barredPreset u n, .locked)])
    fun u =>
      let p := u.tun.working.stored ((presetAt u n).getD .factory)
      let u := setSource n (onWorking (fun _ => p.working) (setPreset n p u))
      let u := when (!p.aft) startAft u
      okay (setSettings (fun k => { k with lastViewed := n }) u)) s)

/-- A preset number after the exchange of `a` and `b`. -/
def swapNumber (a b n : Nat) : Nat := if n = a then b else if n = b then a else n

/-- Step 2 of R108 for one slot. -/
def swapProgramme (a b : Nat) (s : State) (slot : Nat) : State :=
  match progAt s slot with
  | some p => if p.source = a ∨ p.source = b then setProg slot { p with source := swapNumber a b p.source } s else s
  | none => s

/-- Step 4 of R108. -/
def swapSettings (a b : Nat) (s : State) : State :=
  let k := { s.settings with
    extSource := swapNumber a b s.settings.extSource, lastViewed := swapNumber a b s.settings.lastViewed }
  if k = s.settings then s else setSettings (fun _ => k) s

/-- Steps 1 to 5 of R108. Record a is marked first, then b, then the changed programmes from slot 0 to 15: steps 1 and 2 give no order.
Log entry 75. -/
def swapPresets (a b : Nat) (s : State) : State :=
  let p := (presetAt s a).getD .factory
  let q := (presetAt s b).getD .factory
  let s := setPreset b p (setPreset a q s)
  let s := (List.range Config.nProgrammes).foldl (swapProgramme a b) s
  let s := s.onTim fun t => { t with edit := t.edit.map fun e => { e with source := swapNumber a b e.source } }
  let s := setSource (swapNumber a b s.tun.source) (swapSettings a b s)
  s.onTun fun t => { t with saved := t.saved.map (swapNumber a b) }

/-- PRESET-SWAP (R108). -/
def execPresetSwap (a b : Nat) (s : State) : Host.Outcome State Fault Refusal :=
  .next (request false (checked
    (fun u => presetProgrammeChecks (presetOk a && presetOk b) u ++
      [(barredPreset u a || barredPreset u b, .locked), (inUse u a || inUse u b, .busy)])
    fun u => okay (if a = b then u else swapPresets a b u)) s)

/-- Some programme that is not EMPTY names the source (R109). -/
def namedByProgramme (s : State) (p : Nat → Bool) : Bool :=
  s.tim.programmes.any fun q => q.state != .empty && p q.source

/-- A preset becomes EMPTY: the current source becomes 0 where it was that preset, the working tuning kept (R109). -/
def emptyPreset (n : Nat) (s : State) : State :=
  let s := setPreset n .factory s
  if s.tun.source = n then setSource 0 s else s

/-- PRESET-CLEAR (R109). -/
def execPresetClear (n : Nat) (s : State) : Host.Outcome State Fault Refusal :=
  .next (request false (checked
    (fun u => presetProgrammeChecks (presetOk n) u ++
      [(barredPreset u n, .locked), (namedByProgramme u (· == n) || u.settings.extSource == n, .referenced),
        (inUse u n, .busy)])
    fun u => okay (if presetEmpty u n then u else emptyPreset n u)) s)

/-- FINE (R110): the fine correction is clamped, and an unchanged one changes nothing. -/
def execFine (delta : Int) (s : State) : Host.Outcome State Fault Refusal :=
  .next (request false (checked
    (fun u => presetsBusy u ++
      [(standby u, .state), (u.hold.power != .on || !isPreset u.tun.source, .state), (notView u, .busy),
        (barredPreset u u.tun.source, .locked)])
    fun u =>
      match presetAt u u.tun.source with
      | some p =>
        let fine := clampI (-32) 31 (p.fine + delta)
        okay (if fine = p.fine then u else changePreset u.tun.source { p with fine := fine } u)
      | none => okay u) s)

/-- AFT-STORE (R114): the offset is folded into the base word, the AFT state and count are kept. -/
def execAftStore (s : State) : Host.Outcome State Fault Refusal :=
  .next (request false (checked
    (fun u => presetsBusy u ++
      [(standby u, .state), (u.hold.power != .on || !isPreset u.tun.source || notView u, .state),
        (barredPreset u u.tun.source, .locked)])
    fun u =>
      match presetAt u u.tun.source with
      | some p =>
        if u.tun.working.offset = 0 then okay u
        else
          let base := (clampI 0 Config.maxWord (p.base + u.tun.working.offset)).toNat
          okay (onWorking (fun w => { w with base := base, offset := 0 })
            (setPreset u.tun.source { p with base := base } u))
      | none => okay u) s)

/-! ### Station search -/

/-- The mode of SCAN by its code (11.9). -/
def ScanMode.ofCode : Nat → ScanMode
  | 0 => .next
  | _ => .store

/-- SCAN (R120). -/
def execScan (mode first : Nat) (s : State) : Host.Outcome State Fault Refusal :=
  .next (request false (checked
    (fun u => presetsBusy u ++
      [(decide (1 < mode) || !presetOk first, .range), (u.hold.power != .on, .state), (notView u, .busy),
        (ScanMode.ofCode mode == .store && (emptyPresetFrom first u.tun.presets).isNone, .full)])
    fun u => okay (startScan (ScanMode.ofCode mode) first u)) s)

/-- SCAN-STOP (R125). -/
def execScanStop (s : State) : Host.Outcome State Fault Refusal :=
  .next (request false (checked (fun u => [(u.tun.scan.isNone, .state)]) fun u => okay (stopScan u)) s)

/-! ### The 20 ms events -/

/-- An AFT sample: it acts while AFT runs (R111 to R113). -/
def execAftSample (sync : Bool) (d : Nat) (s : State) : Host.Outcome State Fault Refusal :=
  .next (deckEvent id (fun u => when (aftRuns u.tun) (sampleAft sync d) u) s)

/-- A step event in SWEEP (R121). -/
def execSearchSweepStep (sync : Bool) (s : State) : Host.Outcome State Fault Refusal :=
  .next (deckEvent id (fun u =>
    match u.tun.scan with
    | some sc => match sc.phase with
      | .sweep => sweepStep sync sc u
      | .capture _ _ => u
    | none => u) s)

/-- A sample event in CAPTURE (R122). -/
def execSearchCaptureSample (sync : Bool) (d : Nat) (s : State) : Host.Outcome State Fault Refusal :=
  .next (deckEvent id (fun u =>
    match u.tun.scan with
    | some sc => match sc.phase with
      | .capture start samples => captureSample sync d sc start samples u
      | .sweep => u
    | none => u) s)

end Sys2Proof.Machine
end

