-- ==== Sys2Proof/Machine/LockStore.lean ====
section
/-! DEFINITION. The lock requests (10.2, 10.3), the wipe (10.7) and the completion of a write (R189, R194). -/

namespace Sys2Proof.Machine

open Sys2Proof

/-! ### The lock (R181 to R184) -/

/-- A wrong code costs an attempt (R182, R184): the state and the answer it leaves. -/
def wrongCode (s : State) : Answer × State :=
  if s.lock.attempts ≤ 1 then answer .frozen (s.onLock fun l => { l with attempts := 0, state := .frozen })
  else answer .locked (s.onLock fun l => { l with attempts := l.attempts - 1, state := .locked })

/-- The lock opens with five attempts (R182, R184). -/
def openLock (s : State) : State := s.onLock fun l => { l with attempts := 5, state := .unlocked }

/-- UNLOCK (R182). -/
def execUnlock (code : Nat) (s : State) : Host.Outcome State Fault Refusal :=
  .next (request false (checked
    (fun u => [(!codeOk code, .range), (standby u, .state), (u.lock.state == .none, .state),
      (u.lock.state == .frozen, .frozen)])
    fun u => if u.settings.lockCode = some code then okay (openLock u) else wrongCode u) s)

/-- RELOCK (R183). -/
def execRelock (s : State) : Host.Outcome State Fault Refusal :=
  .next (request false (fun u =>
    match u.lock.state with
    | .none => answer .state u
    | .locked => okay u
    | .unlocked => okay (closeLock u)
    | .frozen => answer .frozen u) s)

/-- The locked flag of a preset set or cleared, the record marked where it changes. -/
def lockPresetFlag (on : Bool) (s : State) (n : Nat) : State :=
  match presetAt s n with
  | some p => if p.locked = on then s else setPreset n { p with locked := on } s
  | none => s

/-- The LOCKED flag of a live title set or cleared, the record marked where it changes. -/
def lockTitleFlag (on : Bool) (s : State) (i : Nat) : State :=
  match titleAt s i with
  | some t => if t.locked = on then s else setTitle i (some { t with locked := on }) s
  | none => s

/-- Every lock flag is removed (R184, step 2). The presets are marked first, by number, and then the titles, by pool record number:
the rule gives the writes no order. Log entry 72. -/
def clearLockFlags (s : State) : State :=
  let s := ((List.range Config.nPresets).map (· + 1)).foldl (lockPresetFlag false) s
  (List.range Config.nTitles).foldl (lockTitleFlag false) s

/-- The lock is removed (R184). -/
def removeLock (s : State) : State :=
  (clearLockFlags (setSettings (fun k => { k with lockCode := none }) s)).onLock fun l =>
    { l with state := .none, attempts := 5 }

/-- A CODE-SET with the right old code, or from state NONE (R184). -/
def setCode (new : Nat) (s : State) : State :=
  if new = codeNone then removeLock s else openLock (setSettings (fun k => { k with lockCode := some new }) s)

/-- A wipe of PRESETS, CATALOGUE or ALL is in progress (R184, check 3). -/
def wipingFlags (s : State) : Bool := wiping s .presets || wiping s .catalogue

/-- CODE-SET (R184). -/
def execCodeSet (old new : Nat) (s : State) : Host.Outcome State Fault Refusal :=
  .next (request false (checked
    (fun u => [(!codeOrNone old || !codeOrNone new, .range), (standby u, .state),
      (new == codeNone && wipingFlags u, .busy), (u.lock.state == .frozen, .frozen)])
    fun u =>
      if u.lock.state = .none ∨ u.settings.lockCode = some old then okay (setCode new u) else wrongCode u) s)

/-- LOCK-PRESET (R185); a value that is neither on nor off is RANGE by the rule's check 2 (R196, log entry 40). -/
def execLockPreset (n : Nat) (on : Choice Bool) (s : State) : Host.Outcome State Fault Refusal :=
  .next (request false (checked (fun u => [(wiping u .presets, .busy)]) (chosen on fun b =>
    checked (fun u => [(!presetOk n, .range), (standby u, .state)] ++ lockBar u.lock.state ++ [(presetEmpty u n, .absent)])
      fun u => okay (match presetAt u n with
        | some p => setPreset n { p with locked := b } u
        | none => u))) s)

/-- LOCK-TITLE (R185); a value that is neither on nor off is RANGE by the rule's check 2 (R196, log entry 40). -/
def execLockTitle (tag slot : Nat) (on : Choice Bool) (s : State) : Host.Outcome State Fault Refusal :=
  .next (request false (checked (fun u => [(wiping u .catalogue, .busy)]) (chosen on fun b =>
    checked (fun u => (!tagOk tag || !slotOk slot, .range) :: lockBar u.lock.state)
      fun u =>
        match titleBySlot u tag slot with
        | some (i, t) => okay (setTitle i (some { t with locked := b }) u)
        | none => answer .absent u)) s)

/-! ### The wipe (R192, R193) -/

/-- WIPE-PREPARE (R192). -/
def execWipePrepare (s : State) : Host.Outcome State Fault Refusal := .next (request true okay s)

/-- The presets belong to a region. -/
def Region.hasPresets (r : Region) : Bool := r == .presets || r == .all
/-- The programmes belong to a region. -/
def Region.hasProgrammes (r : Region) : Bool := r == .programmes || r == .all
/-- The catalogue belongs to a region. -/
def Region.hasCatalogue (r : Region) : Bool := r == .catalogue || r == .all

/-- The checks of WIPE that follow the region's (R192, 3 to 9). -/
def wipeChecks (r : Region) (s : State) : List (Bool × Result) :=
  [(s.settings.lockCode.isSome && (s.lock.state == .locked || s.lock.state == .frozen), .locked),
    (standby s, .state),
    (s.store.wipe.isSome, .busy),
    (r.hasProgrammes && running s, .busy),
    (r.hasCatalogue && s.cat.recording.isSome, .busy),
    (r.hasPresets && (s.tun.owner == .record || s.tun.owner == .timer) && isPreset s.tun.source, .busy),
    (r == .presets && (namedByProgramme s isPreset || isPreset s.settings.extSource), .referenced)]

/-- Step 2 of R193. -/
def wipePresets (all : Bool) (s : State) : State :=
  let s := stopScan s
  let s := s.onTun fun t => { t with presets := List.replicate Config.nPresets .factory }
  let s := if isPreset s.tun.source then setSource 0 s else s
  if all && isPreset s.settings.extSource then { s with settings := { s.settings with extSource := 101 } } else s

/-- Step 3 of R193. -/
def wipeProgrammes (s : State) : State :=
  s.onTim fun t => { t with programmes := List.replicate Config.nProgrammes .factory, edit := none }

/-- Step 4 of R193. -/
def wipeCatalogue (s : State) : State :=
  let s := setIdentity .none s
  let s := s.onCat fun c =>
    { c with cassettes := [], pool := List.replicate Config.nTitles none, thisLoad := [], recording := none }
  { s with settings := { s.settings with nextTag := 1 } }

/-- The records of a region in the order of step 5 of R193. -/
def regionRecords (r : Region) : List RecordId :=
  (if r.hasPresets then (List.range Config.nPresets).map fun n => .preset (n + 1) else [])
    ++ (if r.hasProgrammes then (List.range Config.nProgrammes).map .programme else [])
    ++ (if r.hasCatalogue then (List.range Config.nCassettes).map .cassette ++ (List.range Config.nTitles).map .title
        else [])

/-- A taken WIPE (R193), SETTINGS marked after the records of the region (log entry 67). A write in flight started before it and
does not count toward its completion (R194). -/
def wipeRegion (r : Region) (s : State) : State :=
  let before := s.settings
  let s := s.onStore fun st => { st with
    wipe := some ⟨r, []⟩, flight := st.flight.map fun f => { f with afterWipe := false } }
  let s := if r.hasPresets then wipePresets (r == .all) s else s
  let s := if r.hasProgrammes then wipeProgrammes s else s
  let s := if r.hasCatalogue then wipeCatalogue s else s
  let records := regionRecords r ++ (if s.settings = before then [] else [.settings])
  (records.foldl (fun acc x => mark x acc) s).onStore fun st => { st with wipe := some ⟨r, records⟩ }

/-- WIPE (R192, R193). -/
def execWipe (region : Nat) (s : State) : Host.Outcome State Fault Refusal :=
  .next (request false (checked
    (fun u => (!u.store.isPrepared, .sequence) :: (decide (3 < region), .range) :: wipeChecks (Region.ofCode region) u)
    fun u => answer .accepted (wipeRegion (Region.ofCode region) u)) s)

/-! ### A write completes (R189, R194) -/

/-- The name of the record that a copy was taken from. -/
def RecordCopy.id : RecordCopy → RecordId
  | .settings _ => .settings
  | .preset n _ => .preset n
  | .programme n _ => .programme n
  | .cassette place _ => .cassette place
  | .title n _ => .title n

/-- The stored copies with one record replaced (R189). -/
def Stored.put (st : Stored) : RecordCopy → Stored
  | .settings v => { st with settings := v }
  | .preset n v => { st with presets := listSet st.presets (n - 1) v }
  | .programme n v => { st with programmes := listSet st.programmes n v }
  | .cassette place v => { st with cassettes := listSet st.cassettes place v }
  | .title n v => { st with titles := listSet st.titles n v }

/-- A completed write counts toward a wipe in progress (R194). -/
def countWipe (id : RecordId) (s : State) : State :=
  match s.store.wipe with
  | none => s
  | some w =>
    let left := w.left.filter (· != id)
    if left = [] then
      raise .store wipedReason (regionCode w.region) (s.onStore fun st => { st with wipe := none })
    else s.onStore fun st => { st with wipe := some { w with left := left } }

/-- The write in flight completes (R189); the next one starts at the end of the step. -/
def completeWrite (s : State) : State :=
  match s.store.flight with
  | none => s
  | some f =>
    let id := f.copy.id
    let s := s.onStore fun st => { st with
      stored := st.stored.put f.copy, damaged := st.damaged.filter (· != id), flight := none }
    when f.afterWipe (countWipe id) s

/-- STORE-WRITE-COMPLETE (R189, R194). -/
def execStoreWriteComplete (s : State) : Host.Outcome State Fault Refusal := .next (deckEvent id completeWrite s)

end Sys2Proof.Machine
end

