-- ==== Sys2Proof/Machine/Mechanism.lean ====
section
/-! DEFINITION. The events of the deck (chapters 1 to 3): switches and motions, dew, the reels, the drum, the capstan, the
control track and its marks. A row that names a completed count stands for the pulse or edge that completes it, and a row
that names a timer for its running out: where the timer does not run, or the mode has no such count, nothing happens
(log entries 15 and 16). -/

namespace Sys2Proof.Machine

open Sys2Proof

/-! ### Motions (1.2) -/

/-- The cassette-in switch becomes active in EMPTY (R2); while the power warning is active motions are stopped (R29). -/
def cassetteArrives (s : State) : State :=
  if s.mech.mode = .empty ∧ !s.pins.powerWarning then changeMode .loading s else s

/-- LOADING completes (R2): HALTED, and a new load begins. -/
def loadCompletes (s : State) : State :=
  if s.mech.mode = .loading then follow wayLength (beginLoad (changeMode .halted s)) else s

/-- EJECTING completes (R5): EMPTY. -/
def ejectCompletes (s : State) : State :=
  if s.mech.mode = .ejecting then follow wayLength (changeMode .empty s) else s

/-- A motion of an EJECT, or of an unthreading, times out (R4, R5): FAULT with reason TIMEOUT, and the stuck flag where the
motion belongs to an EJECT taken in FAULT (R18). -/
def motionTimesOut (m : Mode) (s : State) : State :=
  if s.mech.mode = m then
    let again := s.mech.faultEject
    (enterFault .timeout s).onMech fun k => { k with stuck := k.stuck || again }
  else s

/-- CASSETTE-IN (R2). -/
def execCassetteIn (s : State) : Host.Outcome State Fault Refusal :=
  .next (deckEvent (fun u => u.onPins fun p => { p with cassetteIn := true }) cassetteArrives s)

/-- LOADING-COMPLETE (R2): carriage-down becomes active. -/
def execLoadingComplete (tab bot : Bool) (s : State) : Host.Outcome State Fault Refusal :=
  .next (deckEvent (fun u => u.onPins fun p =>
    { p with carriageDown := true, ejectPosition := false, recordTab := tab, bot := bot }) loadCompletes s)

/-- LOADING times out (R2): the load is abandoned, and EJECTING starts. A load that a soft reset has kept (R31) has begun, so
it ends as EJECTING starts (R5). Log entry 35. A pending target fails with LOAD-FAILED (R8), that of an EJECT among them, which
R2, R8 and R9 leave open. Log entry 74. -/
def loadFails (s : State) : State :=
  if s.mech.mode = .loading then breakIn .loadFailed .noCassette (fun u => changeMode .ejecting (when (loaded u) endLoad u)) s
  else s

/-- LOADING-TIMEOUT (R2). -/
def execLoadingTimeout (s : State) : Host.Outcome State Fault Refusal := .next (deckEvent id loadFails s)

/-- THREADING-COMPLETE (R3): the cam reaches THREAD-POS; the mode becomes READY with the drum locked. -/
def execThreadingComplete (s : State) : Host.Outcome State Fault Refusal :=
  .next (deckEvent (fun u => if u.mech.mode = .threading then u.onPins fun p => { p with cam := .threadPos } else u)
    (follow wayLength) s)

/-- THREADING-DRUM-TIMEOUT (R3). A flag that was set and has been lost again counts as not set. Log entry 46. -/
def execThreadingDrumTimeout (s : State) : Host.Outcome State Fault Refusal :=
  .next (deckEvent id (fun u => if u.mech.mode = .threading ∧ !u.mech.drumLock then enterFault .drum u else u) s)

/-- THREADING-TIMEOUT (R3). -/
def execThreadingTimeout (s : State) : Host.Outcome State Fault Refusal :=
  .next (deckEvent id (fun u =>
    if u.mech.mode = .threading ∧ u.pins.cam ≠ .threadPos then enterFault .timeout u else u) s)

/-- UNTHREADING-COMPLETE (R4): the cam reaches HALT-POS. -/
def execUnthreadingComplete (s : State) : Host.Outcome State Fault Refusal :=
  .next (deckEvent (fun u => if u.mech.mode = .unthreading then u.onPins fun p => { p with cam := .haltPos } else u)
    (follow wayLength) s)

/-- UNTHREADING-TIMEOUT (R4, R18). -/
def execUnthreadingTimeout (s : State) : Host.Outcome State Fault Refusal :=
  .next (deckEvent id (motionTimesOut .unthreading) s)

/-- EJECTING-COMPLETE (R5): eject-position becomes active; the cassette stands out of the mouth (1.1). -/
def execEjectingComplete (s : State) : Host.Outcome State Fault Refusal :=
  .next (deckEvent (fun u => if u.mech.mode = .ejecting then u.onPins fun p =>
      { p with ejectPosition := true, cassetteIn := false, carriageDown := false } else u) ejectCompletes s)

/-- EJECTING-TIMEOUT (R5, R18). -/
def execEjectingTimeout (s : State) : Host.Outcome State Fault Refusal :=
  .next (deckEvent id (motionTimesOut .ejecting) s)

/-! ### The BOT sensor (R37) -/

/-- The BOT sensor has changed to a level: an anchor at 0 in a tape-moving mode, by the direction. An active edge that arrives
together with a memory-stop crossing in REW and is taken second finds the tape stopped, and anchors at 0 too: either way P ends
at 0. Log entry 73. -/
def botChanges (active : Bool) (s : State) : State :=
  if (s.mech.mode.tapeMoving ∧ active = s.mech.mode.reverse) ∨ (s.crossed ∧ active) then applyAnchor 0 s else s

/-- The level of the BOT sensor. -/
def setBot (active : Bool) (s : State) : State := s.onPins fun p => { p with bot := active }

/-- BOT-ANCHOR (R37). -/
def execBotAnchor (active : Bool) (s : State) : Host.Outcome State Fault Refusal :=
  .next (deckEvent (setBot active) (botChanges active) s)

/-! ### Switch changes (R6) -/

/-- The input levels after a change. -/
def Inputs.change (p : Inputs) : InputChange → Inputs
  | .cassetteIn a => { p with cassetteIn := a }
  | .carriageDown a => { p with carriageDown := a }
  | .ejectPosition a => { p with ejectPosition := a }
  | .cam c => { p with cam := c }
  | .recordTab a => { p with recordTab := a }
  | .bot a => { p with bot := a }
  | .eot a => { p with eot := a }

/-- A change of the cam that no motion accounts for (R6), `old` being the position it leaves. -/
def camFaults (old new : Cam) (m : Mode) : Bool :=
  old != new && ((m.threaded && old == .threadPos) || ((m == .halted || m.winding) && old == .haltPos))

/-- The carriage-down switch becomes inactive where it should not (R6). -/
def carriageFaults (m : Mode) : Bool := m != .empty && m != .loading && m != .ejecting

/-- What a switch change does, `old` being the levels before it: a completion of the motion in flight (R2 to R5), an anchor
(R37), or a mechanism fault (R6). -/
def inputChanges (old : Inputs) (c : InputChange) (s : State) : State :=
  match c with
  | .cassetteIn a => if a then cassetteArrives s else s
  | .carriageDown a =>
    if a then loadCompletes s
    else if old.carriageDown ∧ carriageFaults s.mech.mode then enterFault .mechanism s else s
  | .ejectPosition a => if a then ejectCompletes s else s
  | .cam new => if camFaults old.cam new s.mech.mode then enterFault .mechanism s else follow wayLength s
  | .bot a => botChanges a s
  | .recordTab _ => s
  | .eot _ => s

/-- MECHANISM-SWITCH-CHANGE (R6). -/
def execMechanismSwitchChange (c : InputChange) (s : State) : Host.Outcome State Fault Refusal :=
  .next (deckEvent (fun u => u.onPins fun p => Inputs.change p c) (inputChanges s.pins c) s)

/-! ### Dew (R19) -/

/-- DEW-ACTIVE (R19). -/
def execDewActive (s : State) : Host.Outcome State Fault Refusal :=
  .next (deckEvent (fun u => u.onPins fun p => { p with dew := true }) dewBreaksIn s)

/-- DEW-INACTIVE (R19): the 120 s wait starts. -/
def execDewInactive (s : State) : Host.Outcome State Fault Refusal :=
  .next (deckEvent (fun u => u.onPins fun p => { p with dew := false })
    (fun u => u.onMech fun m => { m with dewWait := some 120000 }) s)

/-- The dew wait runs out (R19). -/
def dewClears (s : State) : State :=
  if s.mech.dewWait.isSome then
    raise .fault dewClearReason 0 (s.onMech fun m => { m with dewWait := none, dewLock := false })
  else s

/-- DEW-WAIT-EXPIRY (R19). -/
def execDewWaitExpiry (s : State) : Host.Outcome State Fault Refusal := .next (deckEvent id dewClears s)

/-! ### Reels (R20, R44 to R51) -/

/-- The reel watch restarts with its window alone (R20). -/
def rewatch (s : State) : State :=
  when s.mech.mode.tapeMoving (fun u => u.onMech fun m => { m with reelWatch := some m.mode.reelWindow }) s

/-- A take-up edge of a measurement in progress; the 64th completes it (R46). -/
def takeUpEdge (s : State) : State :=
  let s := s.onPos fun p => { p with takeUp := some (measureEdge p.takeUp) }
  match s.pos.takeUp with
  | some m => if 64 ≤ m.edges then completeTakeUp s else s
  | none => s

/-- A take-up edge toward a revolution in winding; the eighth makes the wind step (R50, R51). -/
def windEdge (s : State) : State :=
  let s := s.onPos fun p => { p with wind := p.wind.map fun w => { w with edges := w.edges + 1 } }
  match s.pos.wind with
  | some w => if 8 ≤ w.edges then windStep s else s
  | none => s

/-- A supply edge of a measurement in progress; the 64th completes it (R44). -/
def supplyEdge (s : State) : State :=
  let s := s.onPos fun p => { p with supply := some (measureEdge p.supply) }
  match s.pos.supply with
  | some m => if 64 ≤ m.edges then completeSupply s else s
  | none => s

/-- TAKE-UP-TACH-EDGE (R20, R46, R50, R51). -/
def execTakeUpTachEdge (s : State) : Host.Outcome State Fault Refusal :=
  .next (deckEvent id (fun u =>
    when u.mech.mode.winding windEdge (when u.mech.mode.measuring takeUpEdge (rewatch u))) s)

/-- SUPPLY-TACH-EDGE (R44). -/
def execSupplyTachEdge (s : State) : Host.Outcome State Fault Refusal :=
  .next (deckEvent id (fun u => when u.mech.mode.measuring supplyEdge u) s)

/-- FF-WIND-STEP (R50): the eighth take-up edge of a revolution. -/
def execFfWindStep (s : State) : Host.Outcome State Fault Refusal :=
  .next (deckEvent id (fun u => when (u.mech.mode == .ff) (fun v => windStep (rewatch v)) u) s)

/-- REW-WIND-STEP (R51): the eighth take-up edge of a revolution. -/
def execRewWindStep (s : State) : Host.Outcome State Fault Refusal :=
  .next (deckEvent id (fun u => when (u.mech.mode == .rew) (fun v => windStep (rewatch v)) u) s)

/-- SUPPLY-MEASUREMENT-COMPLETE (R47): the 64th supply edge of a measurement. -/
def execSupplyMeasurementComplete (s : State) : Host.Outcome State Fault Refusal :=
  .next (deckEvent id (fun u => when u.mech.mode.measuring completeSupply u) s)

/-- TAKE-UP-MEASUREMENT-COMPLETE (R46): the 64th take-up edge of a measurement. -/
def execTakeUpMeasurementComplete (s : State) : Host.Outcome State Fault Refusal :=
  .next (deckEvent id (fun u =>
    when (u.mech.mode.measuring && u.pos.takeUp.isSome) (fun v => completeTakeUp (rewatch v)) u) s)

/-- The reel watch runs out (R21). -/
def watchRunsOut (s : State) : State :=
  if s.mech.reelWatch.isSome ∧ s.mech.mode.tapeMoving then
    if endAhead s then tapeEnd s else enterFault .reel s
  else s

/-- REEL-WATCH-EXPIRY (R21). -/
def execReelWatchExpiry (s : State) : Host.Outcome State Fault Refusal := .next (deckEvent id watchRunsOut s)

/-! ### Automatic stops (R22) -/

/-- STILL-LIMIT (R22). -/
def execStillLimit (s : State) : Host.Outcome State Fault Refusal :=
  .next (deckEvent id (fun u => when (u.mech.mode == .still && u.mech.stillTimer.isSome) (autoStop (changeMode .ready)) u) s)

/-- REC-PAUSE-LIMIT (R22, R28). -/
def execRecPauseLimit (s : State) : Host.Outcome State Fault Refusal :=
  .next (deckEvent id (fun u => when (u.mech.mode == .recPause && u.mech.recPauseTimer.isSome)
    (fun v => autoStop (changeMode .ready) (endRecording .aborted .complete v)) u) s)

/-- READY-IDLE-LIMIT (R22). -/
def execReadyIdleLimit (s : State) : Host.Outcome State Fault Refusal :=
  .next (deckEvent id (fun u => when (u.mech.mode == .ready && u.mech.readyTimer.isSome) (autoStop (ownTarget .halted)) u) s)

/-! ### Drum (R3, R23) -/

/-- A period in nanoseconds lies within `percent` of the reference period of one frame (1.9). -/
def nearFrame (percent : Nat) (f period : Nat) : Bool := decide (apart (period * f) 1000000000 * 100 ≤ percent * 1000000000)

/-- The drum-lock flag is set (R23), which may complete THREADING (R3). -/
def drumLocks (s : State) : State :=
  follow wayLength (s.onMech fun m => { m with drumCount := 8, drumLock := true, drumTimer := none })

/-- A revolution outside the range (R23); in a threaded mode the 5 s start as the flag is lost. -/
def drumSlips (m : Mech) : Mech :=
  { m with
    drumCount := 0
    drumLock := false
    drumTimer := if m.drumLock && m.mode.threaded then some 5000 else m.drumTimer }

/-- A drum revolution of a period (R23). -/
def drumTurns (period : Nat) (s : State) : State :=
  if !s.mech.mode.drumOn then s
  else if nearFrame 1 (fr s) period then
    if 8 ≤ s.mech.drumCount + 1 then drumLocks s else s.onMech fun m => { m with drumCount := m.drumCount + 1 }
  else s.onMech drumSlips

/-- DRUM-PG-PULSE (R23). -/
def execDrumPgPulse (period : Nat) (s : State) : Host.Outcome State Fault Refusal :=
  .next (deckEvent id (drumTurns period) s)

/-- DRUM-LOCK (R23): the eighth good revolution in a row. -/
def execDrumLock (s : State) : Host.Outcome State Fault Refusal :=
  .next (deckEvent id (fun u => when u.mech.mode.drumOn drumLocks u) s)

/-- DRUM-UNLOCK-TIMEOUT (R23). -/
def execDrumUnlockTimeout (s : State) : Host.Outcome State Fault Refusal :=
  .next (deckEvent id (fun u => if u.mech.mode.threaded ∧ !u.mech.drumLock then enterFault .drum u else u) s)

/-! ### Capstan (R24, R25) -/

/-- The other speed. -/
def Speed.other : Speed → Speed
  | .std => .long
  | .long => .std

/-- The capstan locks (R24): the capstan speed becomes the detected play speed. -/
def capstanLocks (m : Mech) : Mech :=
  { m with inWindow := 8, outWindow := 0, capstanLock := true, detected := m.capstan }

/-- The capstan switches to the other speed (R24). -/
def capstanSwitches (m : Mech) : Mech :=
  { m with capstan := Speed.other m.capstan, inWindow := 0, outWindow := 0, capstanLock := false, unmeasured := true }

/-- A measured pulse period in PLAY (R24). -/
def capstanMeasures (near : Bool) (m : Mech) : Mech :=
  if near then
    if 8 ≤ m.inWindow + 1 then (if m.capstanLock then { m with outWindow := 0 } else capstanLocks m)
    else { m with inWindow := m.inWindow + 1, outWindow := 0 }
  else if 8 ≤ m.outWindow + 1 then capstanSwitches m
  else { m with inWindow := 0, capstanLock := false, outWindow := m.outWindow + 1 }

/-- A control-track pulse arrives in PLAY (R24, R25): the timer restarts, NO-CTL clears, and a first pulse after a switch has been
seen. -/
def pulseArrives (m : Mech) : Mech := { m with ctlTimer := some 3000, noCtl := false, unmeasured := false }

/-- A control-track pulse in PLAY (R24, R25), measured unless it is the first after a switch. -/
def capstanPulseRead (near : Bool) (m : Mech) : Mech :=
  if m.unmeasured then pulseArrives m else capstanMeasures near (pulseArrives m)

/-- The control-track pulse of a row that names what the pulse completes in PLAY: it arrives as every pulse does, and `f` is what it
completes. Its width is not given, so the reader is left as it stands. Log entry 15. -/
def completingPulse (f : Mech → Mech) (s : State) : State :=
  if s.mech.mode = .play then (s.onMech fun m => f (pulseArrives m)).onCue fun c => { c with gap := 0 } else s

/-- CAPSTAN-LOCK (R24, R25): the eighth in-window pulse in a row. -/
def execCapstanLock (s : State) : Host.Outcome State Fault Refusal := .next (deckEvent id (completingPulse capstanLocks) s)

/-- CAPSTAN-SPEED-SWITCH (R24, R25): the eighth out-of-window pulse in a row. -/
def execCapstanSpeedSwitch (s : State) : Host.Outcome State Fault Refusal :=
  .next (deckEvent id (completingPulse capstanSwitches) s)

/-- NO-CTL-TIMEOUT (R25). -/
def execNoCtlTimeout (s : State) : Host.Outcome State Fault Refusal :=
  .next (deckEvent id (fun u => when u.mech.ctlTimer.isSome
    (fun v => v.onMech fun m => { m with noCtl := true, ctlTimer := none }) u) s)

/-- A capstan pulse (R34): the residue moves by one, and at plus or minus 6 a counting step is made. -/
def capstanTurns (s : State) : State :=
  if s.mech.mode.threaded ∧ loaded s then
    let r : Int := s.pos.residue + (if s.mech.forward then 1 else -1)
    if 6 ≤ r then countStep true s
    else if r ≤ -6 then countStep false s
    else s.onPos fun p => { p with residue := r }
  else s

/-- CAPSTAN-PULSE (R34). -/
def execCapstanPulse (s : State) : Host.Outcome State Fault Refusal := .next (deckEvent id capstanTurns s)

/-- COUNTING-STEP (R35): the pulse that takes the residue to plus or minus 6. -/
def execCountingStep (s : State) : Host.Outcome State Fault Refusal :=
  .next (deckEvent id (fun u => when u.mech.mode.threaded (countStep u.mech.forward) u) s)

/-! ### The control track and its marks (3.2 to 3.4) -/

/-- A number from bits, most significant first. -/
def bitsValue (bits : List Bool) : Nat := bits.foldl (fun n b => 2 * n + b.toNat) 0

/-- The parity of a mark holds (R57). -/
def parityEven (bits : List Bool) : Bool := (bits.filter id).length % 2 == 0

/-- The pulse is SHORT (R56): high for less than 45 % of its period. -/
def pulseShort (period width : Nat) : Bool := decide (width * 100 < period * 45)

/-- The last-mark record set to DECODED, and the mark hold with it (R57, R59, R187). -/
def noteMark (tag slot : Nat) (s : State) : State :=
  (s.onCue fun c => { c with reader := .waiting, lastMark := .decoded tag slot false }).onLock fun l =>
    { l with hold := some ⟨tag, slot, false⟩ }

/-- The identity rule (R61): the state after it, and whether the acceptance test is made. -/
def identityRule (tag : Nat) (s : State) : Bool × State :=
  let identified := (true, raise .cassette identifiedReason 0 (setIdentity (.read tag) s))
  let mixed := (false, raise .cassette mixedReason 0 s)
  if (cassetteOf s tag).isNone then (false, raise .cassette foreignReason 0 s)
  else
    match s.cue.identity with
    | .none => identified
    | .asserted t => if t = tag ∨ !s.cue.titlesOpened then identified else mixed
    | .read t => if t = tag then (true, s) else mixed

/-- The slot stands in the dead-mark list of the cassette. -/
def slotDead (s : State) (tag slot : Nat) : Bool :=
  match cassetteOf s tag with
  | some c => c.dead.any fun e => e.slot == slot
  | none => false

/-- The acceptance test (R63): the title whose mark is accepted. -/
def markAccepted (s : State) (tag slot : Nat) : Option Title :=
  match titleBySlot s tag slot, s.pos.place with
  | some (_, t), some pl =>
    if t.anchored && !slotDead s tag slot && (pl.quality != .exact || decide (apart pl.p t.start ≤ 20 * fr s)) then some t
    else none
  | _, _ => none

/-- The length on tape of a title's mark (R38). -/
def markLength (t : Title) : Int :=
  match t.speed with
  | .std => 50
  | .mixed => 50
  | .long => 25

/-- An accepted mark (R64): the anchor, the accepted indication, and the report to a running seek. Its title is current, so the
mark hold is seen at once, also where that title was current before the mark was read (R187). Log entry 66. -/
def acceptMark (tag slot : Nat) (t : Title) (s : State) : State :=
  push (.seekMark tag slot) ((seeHold (applyAnchor (t.start + markLength t) s)).onCue fun c =>
    { c with lastMark := .decoded tag slot true })

/-- A mark has been decoded (R57, R61, R63, R64). -/
def markRead (tag slot : Nat) (s : State) : State :=
  let (tested, s) := identityRule tag (noteMark tag slot s)
  if tested then
    match markAccepted s tag slot with
    | some t => acceptMark tag slot t s
    | none => s
  else s

/-- The seventeenth bit has been collected (R57). -/
def decodeMark (bits : List Bool) (s : State) : State :=
  if parityEven bits then markRead (bitsValue (bits.take 10)) (bitsValue ((bits.drop 10).take 6)) s
  else s.onCue fun c => { c with reader := .waiting }

/-- A pulse read going forward (R56, R57): the reader it leaves. -/
def Reader.pulse (short : Bool) : Reader → Reader
  | .waiting => if short then .waiting else .hunting 0
  | .hunting n => if short then (if 8 ≤ n + 1 then .data [] else .hunting (n + 1)) else .hunting 0
  | .data bits => .data (bits ++ [short])

/-- A pulse read in PLAY or SEARCH-FWD; the seventeenth of the data completes a mark (R57). -/
def readForward (short : Bool) (s : State) : State :=
  let s := s.onCue fun c => { c with gap := 0, reader := Reader.pulse short c.reader }
  match s.cue.reader with
  | .data bits => if 17 ≤ bits.length then decodeMark bits s else s
  | .waiting => s
  | .hunting _ => s

/-- A pulse read in SEARCH-REV (R58). -/
def readReverse (short : Bool) (s : State) : State :=
  let s := s.onCue fun c => { c with gap := 0 }
  if short then s.onCue fun c => { c with shortRun := c.shortRun + 1 } else endShortRun s

/-- A control-track pulse is read (R24, R25, R56); capstan lock can change the current speed, and with it the counter (R43). -/
def pulseRead (period width : Nat) (s : State) : State :=
  let short := pulseShort period width
  match s.mech.mode with
  | .play => readForward short (refreshCounter (s.onMech (capstanPulseRead (nearFrame 2 (fr s) period))))
  | .searchFwd => readForward short s
  | .searchRev => readReverse short s
  | _ => s

/-- CONTROL-TRACK-PULSE (R24, R25, R56). -/
def execControlTrackPulse (period width : Nat) (s : State) : Host.Outcome State Fault Refusal :=
  .next (deckEvent id (pulseRead period width) s)

/-- MARK-DECODED (R57): the pulse that completes a mark of seventeen bits, which in PLAY restarts the timer of R25 too. Its period is
not given, so it is not counted in or out of window. Log entry 15. -/
def execMarkDecoded (bits : List Bool) (s : State) : Host.Outcome State Fault Refusal :=
  .next (deckEvent id (fun u =>
    if (u.mech.mode = .play ∨ u.mech.mode = .searchFwd) ∧ bits.length = 17 then
      decodeMark bits ((completingPulse id u).onCue fun c => { c with gap := 0 })
    else u) s)

/-- MARK-PASSED (R58): the end of a run of eight or more SHORT pulses in SEARCH-REV. -/
def execMarkPassed (s : State) : Host.Outcome State Fault Refusal :=
  .next (deckEvent id (fun u => when (u.mech.mode == .searchRev) passMark u) s)

/-- The last pulse of the mark is written (R54). -/
def finishMark (c : Cue) : Cue :=
  match c.writer with
  | .idle => c
  | .writing tag slot _ => { c with writer := .idle, writePhase := 0, written := some (pulseOf (markPulse tag slot 25)) }

/-- MARK-COMPLETE (R54): the writing of pulse 25. -/
def execMarkComplete (s : State) : Host.Outcome State Fault Refusal :=
  .next (deckEvent id (fun u => when (u.mech.mode == .recording) (fun v => v.onCue finishMark) u) s)

end Sys2Proof.Machine
end

