-- ==== Sys2Proof/Machine/Power.lean ====
section
/-! DEFINITION. The power events: the power warning (R29), the loss and the return of main power (R30, R140, R161, R189 to
R191), the loss of the hold domain (R129), and the soft reset (R202). -/

namespace Sys2Proof.Machine

open Sys2Proof

/-! ### The power warning (R29, R178, R179) -/

/-- The warning in a mode other than EMPTY and HALTED (R29). -/
def warningBreaksIn (s : State) : State :=
  let enter (u : State) : State := (changeMode .fault u).onMech fun m => { m with faultReason := some .power }
  raise .power warningReason 0 (breakIn .powerFail .powerFail enter (endRecording .powerFail .powerFail s))

/-- The power-warning input becomes active (R29); the occurrence of a running programme is suspended (R178). -/
def warningStarts (s : State) : State :=
  suspend (if s.mech.mode = .empty ∨ s.mech.mode = .halted then s else warningBreaksIn s)

/-- POWER-WARNING (R29). -/
def execPowerWarning (s : State) : Host.Outcome State Fault Refusal :=
  .next (deckEvent (fun u => u.onPins fun p => { p with powerWarning := true }) warningStarts s)

/-- POWER-WARNING-CLEAR (R29, R31): the mode is taken from the switches. -/
def execPowerWarningClear (s : State) : Host.Outcome State Fault Refusal :=
  .next (deckEvent (fun u => u.onPins fun p => { p with powerWarning := false }) takeMode s)

/-! ### Loss of power (R129, R189) -/

/-- Main power is lost: a write in flight leaves its record old or damaged, and the queue is gone (R189). -/
def losePower (damaged : Bool) (s : State) : State :=
  { s with
    mainPower := false
    store := { s.store with
      queue := []
      flight := none
      damaged := match damaged, s.store.flight with
        | true, some f => if s.store.damaged.contains f.copy.id then s.store.damaged else s.store.damaged ++ [f.copy.id]
        | _, _ => s.store.damaged } }

/-- MAIN-POWER-LOSS (R189). -/
def execMainPowerLoss (damaged : Bool) (s : State) : Host.Outcome State Fault Refusal := .next (losePower damaged s)

/-- HOLD-LOSS (R129): the backup supply runs too low; while main power is present it feeds the hold domain. -/
def execHoldLoss (s : State) : Host.Outcome State Fault Refusal :=
  .next (if s.mainPower then s else s.onHold fun h => { h with intact := false })

/-! ### The store at power-up (R190) -/

/-- The entries of a list with their places. -/
def placed {α : Type} (xs : List α) : List (Nat × α) := (List.range xs.length).zip xs

/-- Some record of a kind is damaged. -/
def anyDamaged (s : State) (p : RecordId → Bool) : Bool := s.store.damaged.any p

/-- A record of a kind, for the detail of the STORE notice (11.8). -/
def RecordId.isPreset : RecordId → Bool
  | .preset _ => true
  | .settings | .programme _ | .cassette _ | .title _ => false

/-- A programme's record. -/
def RecordId.isProgramme : RecordId → Bool
  | .programme _ => true
  | .settings | .preset _ | .cassette _ | .title _ => false

/-- A cassette place. -/
def RecordId.isCassette : RecordId → Bool
  | .cassette _ => true
  | .settings | .preset _ | .programme _ | .title _ => false

/-- A title record. -/
def RecordId.isTitle : RecordId → Bool
  | .title _ => true
  | .settings | .preset _ | .programme _ | .cassette _ => false

/-- SETTINGS loaded, or its factory values (R190). -/
def loadSettings (s : State) : State :=
  if s.store.damaged.contains .settings then mark .settings { s with settings := .factory }
  else { s with settings := s.store.stored.settings }

/-- The presets loaded (R190). -/
def loadPresets (s : State) : State :=
  let bad (n : Nat) : Bool := s.store.damaged.contains (.preset n)
  let s' := s.onTun fun t => { t with
    presets := (placed s.store.stored.presets).map fun x => if bad (x.1 + 1) then .factory else x.2 }
  ((List.range Config.nPresets).map (· + 1)).foldl (fun acc n => when (bad n) (mark (.preset n)) acc) s'

/-- The programmes loaded (R190). -/
def loadProgrammes (s : State) : State :=
  let bad (n : Nat) : Bool := s.store.damaged.contains (.programme n)
  let s' := s.onTim fun t => { t with
    programmes := (placed s.store.stored.programmes).map fun x => if bad x.1 then .factory else x.2 }
  (List.range Config.nProgrammes).foldl (fun acc n => when (bad n) (mark (.programme n)) acc) s'

/-- Every title record whose owner tag is one of a list is freed and marked. -/
def freeOwned (tags : List Nat) (s : State) : State :=
  (List.range Config.nTitles).foldl (fun acc i =>
    match titleAt acc i with
    | some t => if tags.contains t.tag then setTitle i none acc else acc
    | none => acc) s

/-- The title records loaded, damaged ones freed (R190). -/
def loadTitles (s : State) : State :=
  let bad (n : Nat) : Bool := s.store.damaged.contains (.title n)
  let s' := s.onCat fun c => { c with
    pool := (placed s.store.stored.titles).map fun x => if bad x.1 then none else x.2
    thisLoad := [], recording := none, current := none }
  (List.range Config.nTitles).foldl (fun acc n => when (bad n) (mark (.title n)) acc) s'

/-- The stored cassette records with their places. -/
def storedCassettes (s : State) : List Cassette :=
  (placed s.store.stored.cassettes).filterMap fun x => x.2.map fun c => { c with place := x.1 }

/-- The cassette records loaded, damaged ones retired with their titles (R190); records that hold the same tag are still
side by side. -/
def loadCassettes (s : State) : State :=
  let bad (c : Cassette) : Bool := s.store.damaged.contains (.cassette c.place)
  let s' := s.onCat fun c => { c with cassettes := (storedCassettes s).filter fun d => !bad d }
  let s' := (List.range Config.nCassettes).foldl (fun acc n =>
    when (s.store.damaged.contains (.cassette n)) (mark (.cassette n)) acc) s'
  freeOwned (((storedCassettes s).filter bad).map (·.tag)) s'

/-- An OPEN title found at power-up is CLOSED and INCOMPLETE (R78), by pool record number (log entry 75). -/
def closeOpen (s : State) : State :=
  (List.range Config.nTitles).foldl (fun acc i =>
    match titleAt acc i with
    | some t => if t.isOpen then setTitle i (some { t with isOpen := false, incomplete := true }) acc else acc
    | none => acc) s

/-! ### The catalogue repair (R191) -/

/-- Of two records with one tag, the first gives way to the second (R191, step 1). -/
def Cassette.yields (c d : Cassette) : Bool :=
  c.tag == d.tag && (decide (c.registered < d.registered) || (c.registered == d.registered && decide (d.place < c.place)))

/-- Step 1: one cassette record for a tag, the others retired as if damaged; the rest in tag order. -/
def repairTags (s : State) : State :=
  let all := s.cat.cassettes
  let lost := all.filter fun c => all.any c.yields
  let kept := all.filter fun c => !all.any c.yields
  let s := s.onCat fun k => { k with cassettes := kept.foldl (fun acc c => insertCassette c acc) [] }
  freeOwned (lost.map (·.tag)) (lost.foldl (fun acc c => mark (.cassette c.place) acc) s)

/-- Step 2: a title whose owner tag names no cassette record is freed. -/
def repairOwners (s : State) : State :=
  (List.range Config.nTitles).foldl (fun acc i =>
    match titleAt acc i with
    | some t => if (cassetteOf acc t.tag).isNone then setTitle i none acc else acc
    | none => acc) s

/-- A title placed by its recorded-at time among titles in that order; equals keep the order in which they come. -/
def insertByTime (x : Nat × Nat) : List (Nat × Nat) → List (Nat × Nat)
  | [] => [x]
  | y :: rest => if x.2 < y.2 then x :: y :: rest else y :: insertByTime x rest

/-- Pool record numbers in the order of their recorded-at times, oldest first; equals keep their order. -/
def byTime (s : State) (is : List Nat) : List Nat :=
  (is.foldl (fun acc i => insertByTime (i, ((titleAt s i).map (·.recordedAt)).getD 0) acc) []).map (·.1)

/-- Step 3 for one cassette: its list rebuilt. -/
def repairList (s : State) (c : Cassette) : State :=
  let mine (i : Nat) : Bool := match titleAt s i with
    | some t => t.tag == c.tag
    | none => false
  let held := (c.titles.filter mine).eraseDups
  let more := byTime s ((List.range Config.nTitles).filter fun i => mine i && !held.contains i)
  let list := held ++ more
  let s := if c.titles = list.take Config.nSlots then s
    else onCassette c.tag (fun d => { d with titles := list.take Config.nSlots }) s
  (list.drop Config.nSlots).foldl (fun acc i => setTitle i none acc) s

/-- The titles of a cassette from the oldest to the newest by the measure of step 4: by recorded-at time, and by place in the
rebuilt list among equals. -/
def agedTitles (s : State) (tag : Nat) : List Nat := byTime s ((titlesOf s tag).map (·.1))

/-- The title of pool record `i` trims the older anchored titles that it overlaps (R93). -/
def trimsOlder (i : Nat) (older : List Nat) (s : State) : State :=
  match titleAt s i with
  | some n =>
    if n.anchored then
      older.foldl (fun acc u => match titleAt acc u with
        | some t => if t.anchored then trimOlder n.tag n.start n.stop u acc else acc
        | none => acc) s
    else s
  | none => s

/-- Step 4 for one cassette, the oldest title that trims first. -/
def trimAged (older : List Nat) : List Nat → State → State
  | [], s => s
  | i :: rest, s => trimAged (older ++ [i]) rest (trimsOlder i older s)

/-- Step 5 for one cassette: a title whose slot a newer one holds loses it. -/
def repairSlots : List Nat → State → State
  | [], s => s
  | i :: rest, s =>
    let newer := rest.filterMap fun j => (titleAt s j).bind (·.slot)
    let s := match titleAt s i with
      | some t => match t.slot with
        | some k => if newer.contains k then setTitle i (some { t with slot := none, noCue := true }) s else s
        | none => s
      | none => s
    repairSlots rest s

/-- Of two dead-mark entries with one slot the later is kept (R191, step 6). -/
def lastDead : List DeadMark → List DeadMark
  | [] => []
  | e :: rest => if rest.any fun f => f.slot == e.slot then lastDead rest else e :: lastDead rest

/-- Step 6 for one cassette. -/
def repairDead (s : State) (tag : Nat) : State :=
  let held := (titlesOf s tag).filterMap (·.2.slot)
  match cassetteOf s tag with
  | some c =>
    let dead := lastDead (c.dead.filter fun e => !held.contains e.slot)
    if dead = c.dead then s else onCassette tag (fun d => { d with dead := dead }) s
  | none => s

/-- A title whose record the list did not reference put into the order of R75 by its recorded-at time: an anchored one after the
anchored titles with an equal start and a time not above its own, a relative one before the first relative title with a later
time. Log entry 32. -/
def placeLost (i : Nat) (t : Title) : List (Nat × Title) → List (Nat × Title)
  | [] => [(i, t)]
  | (j, u) :: rest =>
    let before :=
      if t.anchored then !u.anchored || decide (t.start < u.start) || (t.start == u.start && decide (t.recordedAt < u.recordedAt))
      else !u.anchored && decide (t.recordedAt < u.recordedAt)
    if before then (i, t) :: (j, u) :: rest else (j, u) :: placeLost i t rest

/-- Step 7 for one cassette: its list in the order of R75, `held` being the titles that its stored list referenced. -/
def repairOrder (held : List Nat) (tag : Nat) (s : State) : State :=
  let all := titlesOf s tag
  let kept := orderTitles (all.filter fun x => held.contains x.1)
  let ordered := ((all.filter fun x => !held.contains x.1).foldl (fun acc x => placeLost x.1 x.2 acc) kept).map (·.1)
  match cassetteOf s tag with
  | some c => if c.titles = ordered then s else onCassette tag (fun d => { d with titles := ordered }) s
  | none => s

/-- The repair (R191), steps 1 to 7. -/
def repair (s : State) : State :=
  let s := repairOwners (repairTags s)
  let stored := s.cat.cassettes
  let s := s.cat.cassettes.foldl repairList s
  let tags := s.cat.cassettes.map (·.tag)
  let s := tags.foldl (fun acc tag => trimAged [] (agedTitles acc tag) acc) s
  let s := tags.foldl (fun acc tag => repairSlots (agedTitles acc tag) acc) s
  stored.foldl (fun acc c => repairOrder c.titles c.tag acc) (tags.foldl repairDead s)

/-- A programme whose preset is EMPTY becomes DISABLED (R190), one that is DISABLED already among them; from slot 0 to 15 (log
entry 75). -/
def disableOrphans (s : State) : State :=
  (slots s).foldl (fun acc x =>
    if x.2.state ≠ .empty ∧ presetEmpty s x.2.source then
      setProg x.1 { x.2 with state := .disabled, next := none } acc
    else acc) s

/-- The kinds of record that STORE LOST names (11.8). -/
def lostKinds (damaged : State) (cassettes titles : Bool) : Nat :=
  bitAt (damaged.store.damaged.contains .settings) 0 + bitAt (anyDamaged damaged RecordId.isPreset) 1
    + bitAt (anyDamaged damaged RecordId.isProgramme) 2 + bitAt cassettes 3 + bitAt titles 4

/-- The detail of STORE LOST: the kinds in bits 0 to 4 (11.8); what stands in bits 5 to 7 is open. Log entry 3. -/
def lostDetail (kinds : Nat) (s : State) : Nat := kinds + (s.openBits 0).toNat / 32 * 32

/-- The store restores every record, the catalogue closes its OPEN titles and is repaired, programmes without their preset are
disabled, and the loss is reported (R190, R191). Damaged records are marked kind by kind, the titles before the cassette places.
Log entry 68. STORE LOST names TITLES also where a damaged cassette record alone frees undamaged titles. Log entry 77. -/
def restoreStore (s : State) : State :=
  let loaded := loadTitles (loadProgrammes (loadPresets (loadSettings s)))
  let s1 := loadCassettes loaded
  let s2 := closeOpen s1
  let s3 := repair s2
  let cassettes := anyDamaged s RecordId.isCassette || s2.cat.cassettes.length != s3.cat.cassettes.length
    || s3.cat.cassettes.any fun c => !s2.cat.cassettes.contains c
  let titles := anyDamaged s RecordId.isTitle || loaded.cat.pool != s1.cat.pool || s2.cat.pool != s3.cat.pool
  let kinds := lostKinds s cassettes titles
  when (kinds != 0) (raise .store lostReason (lostDetail kinds s)) (disableOrphans s3)

/-! ### The blocks at power-up -/

/-- The clock is examined (R140). -/
def examineClock (s : State) : State :=
  if !s.hold.intact then raise .clock holdLostReason 0 { s with hold := .initial }
  else if !s.hold.valid then raise .clock invalidReason 0 s
  else s

/-- The link interface and the store as power returns (R189, R195, R197, R199). -/
def wakeLink (s : State) : State :=
  { s with
    mainPower := true
    link := {
      buffer := .ready ⟨.ok, []⟩
      sent := none
      notices := { NoticeSet.empty with power := some ⟨powerUpReason, 0, false⟩ }
      feed := false }
    store := { s.store with queue := [], flight := none, isPrepared := false, wipe := none }
    agenda := []
    crossed := false }

/-- The mechanism controller, the position unit and the load, which begins where the carriage is down (R30, R33, R78). -/
def wakeTape (s : State) : State :=
  when s.pins.carriageDown beginLoad (takeMode { s with
    mech := .initial s.settings.recordSpeed
    pos := .noLoad false .absent })

/-- A programme state found at power-up (R161, step 2). -/
def ProgState.woken : ProgState → ProgState
  | .held => .waiting
  | .preroll => .waiting
  | .recording => .waiting
  | .empty => .empty
  | .waiting => .waiting
  | .done => .done
  | .disabled => .disabled

/-- The programmes of the states HELD, PREROLL and RECORDING become WAITING (R161, R162). Their records are marked from slot 0 to 15: the
rules give several of them no order. Log entry 71. -/
def wakeProgrammes (s : State) : State :=
  (slots s).foldl (fun acc x =>
    if x.2.state.woken = x.2.state then acc else setProg x.1 { x.2 with state := x.2.state.woken } acc) s

/-- The timer engine (R161); a deck that was ON is OFF. -/
def wakeTimer (s : State) : State :=
  let s := s.onHold fun h => { h with power := if h.power = .on then .off else h.power }
  let s := s.onTim fun t => { t with edit := none, run := none, ext := .none, freeDue := false }
  checkOff (reexamine (wakeProgrammes s))

/-- The lock unit (R181, R187). -/
def wakeLock (s : State) : State :=
  { s with lock := { state := if s.settings.lockCode.isSome then .locked else .none, attempts := 5, hold := none } }

/-- Main power returns, the inputs standing at the given levels; the cue unit names no cassette while the store is restored (R60). -/
def powerUp (inputs : Inputs) (s : State) : State :=
  let s := restoreStore (examineClock (wakeLink { s with pins := inputs, cue := .initial }))
  chooseSource (wakeLock (wakeTimer (wakeTape s)))

/-- POWER-UP (R140, R190, R30, R161, R181, R103). -/
def execPowerUp (inputs : Inputs) (s : State) : Host.Outcome State Fault Refusal :=
  let u := powerUp inputs s
  .next (finish u u)

/-! ### Soft reset (R202) -/

/-- Step 1: the mechanism controller (R31), a running programme ending by R179. -/
def resetMechanism (s : State) : State := takeMode (endRecordingBy engineReset .incomplete s)

/-- Step 2: the position unit (R33), the cue unit (R53, R56, R59, R60, R71) and the current title, which is none without an identity
(R78); the counter is told of the total that is gone with it (R43). -/
def resetTape (s : State) : State :=
  refreshCounter (refreshTitle { s with
    pos := { s.pos with residue := 0, supply := none, takeUp := none, wind := none }
    cue := .initial })

/-- Step 3: the timer engine (R162, R179), with the check of R160. -/
def resetTimer (s : State) : State :=
  let s := wakeProgrammes ((resetRun s).onTim fun t => { t with ext := .none, edit := none })
  settle (checkOff s)

/-- Step 4: the lock unit (R181, R187). -/
def resetLock (s : State) : State := (closeLock s).onLock fun l => { l with hold := none }

/-- Step 7: the link interface. -/
def resetLink (s : State) : State :=
  raise .power softResetReason 0 ((refreshCounter (refreshTitle s)).onLink fun l => { l with feed := false })

/-- SOFT-RESET (R202). The store's prepared flag is cleared as by every request but one (step 5). -/
def execSoftReset (s : State) : Host.Outcome State Fault Refusal :=
  .next (request false (fun u =>
    okay (resetLink (chooseSource (resetLock (resetTimer (resetTape (resetMechanism u))))))) s)

end Sys2Proof.Machine
end

