-- ==== Sys2Proof/Machine/Requests.lean ====
section
/-! DEFINITION. The command codes and parameters of 11.9: the request that a frame spells, the frame that spells a request,
and the check of R196 that the link interface makes before a request is handed on. -/

namespace Sys2Proof.Machine

open Sys2Proof

/-- What the link interface makes of a frame that is long enough (R196). -/
inductive Parsed where
  | unknown
  | range
  | request (i : Instr)
  deriving DecidableEq, Repr

/-- A two-byte number, most significant byte first. -/
def num16 (hi lo : Byte) : Nat := hi.toNat * 256 + lo.toNat

/-- A number of one byte in two's complement. -/
def signed8 (b : Byte) : Int := if b.toNat < 128 then b.toNat else (b.toNat : Int) - 256

/-- A number of two bytes in two's complement. -/
def signed16 (hi lo : Byte) : Int :=
  if num16 hi lo < 32768 then num16 hi lo else (num16 hi lo : Int) - 65536

/-- A parameter coded by the first numbers of a list; the link interface hands any other value on as it is (R196). -/
def coded {α : Type} (values : List α) (make : Choice α → Instr) (b : Byte) : Parsed :=
  .request (make (match values[b.toNat]? with
    | some v => .of v
    | none => .other b.toNat))

/-- Off and on (11.9). -/
def offOn : List Bool := [false, true]

/-- A text parameter: its length byte and exactly that many characters. -/
def parseText (make : Text → Instr) : List Byte → Parsed
  | [] => .range
  | n :: text => if text.length = n.toNat then .request (make text) else .range

/-- No parameters. -/
def parse0 (i : Instr) : List Byte → Parsed
  | [] => .request i
  | _ :: _ => .range

/-- One byte. -/
def parse1 (f : Byte → Parsed) : List Byte → Parsed
  | [a] => f a
  | _ => .range

/-- Two bytes. -/
def parse2 (f : Byte → Byte → Parsed) : List Byte → Parsed
  | [a, b] => f a b
  | _ => .range

/-- Three bytes. -/
def parse3 (f : Byte → Byte → Byte → Parsed) : List Byte → Parsed
  | [a, b, c] => f a b c
  | _ => .range

/-- Four bytes. -/
def parse4 (f : Byte → Byte → Byte → Byte → Parsed) : List Byte → Parsed
  | [a, b, c, d] => f a b c d
  | _ => .range

/-- Five bytes. -/
def parse5 (f : Byte → Byte → Byte → Byte → Byte → Parsed) : List Byte → Parsed
  | [a, b, c, d, e] => f a b c d e
  | _ => .range

/-- Two bytes and then a tail. -/
def parseTail2 (f : Byte → Byte → List Byte → Parsed) : List Byte → Parsed
  | a :: b :: rest => f a b rest
  | _ => .range

/-- Three bytes and then a tail. -/
def parseTail3 (f : Byte → Byte → Byte → List Byte → Parsed) : List Byte → Parsed
  | a :: b :: c :: rest => f a b c rest
  | _ => .range

/-- The preset record of PRESET-WRITE, bits 0 and 5 of byte 1 disregarded (11.8). -/
def parsePreset : List Byte → Parsed
  | n :: flags :: hi :: lo :: fine :: rest =>
    parseText (fun name => .presetWrite n.toNat
      { band := flags.toNat / 2 % 4
        base := num16 hi lo
        fine := signed8 fine
        aft := flags.toNat / 8 % 2 == 1
        sound := flags.toNat / 64
        skip := flags.toNat / 16 % 2 == 1
        name := name }) rest
  | _ => .range

/-- The key of TITLE-FIND (11.9). The layout gives a count for its two kinds alone, so a frame with another kind is handed on
whatever its count (R196, log entry 40). -/
def parseKey (tag index : Nat) (kind : Byte) (rest : List Byte) : Parsed :=
  if kind.toNat = 0 then parseText (fun t => .titleFind tag index (.namePrefix t)) rest
  else if kind.toNat = 1 then parse1 (fun s => .request (.titleFind tag index (.source s.toNat))) rest
  else .request (.titleFind tag index (.other kind.toNat))

/-- Codes 0x00 to 0x08. -/
def parseLink (code : Nat) (ps : List Byte) : Parsed :=
  match code with
  | 0x00 => parse0 .null ps
  | 0x01 => parse0 .notices ps
  | 0x02 => parse0 .status ps
  | 0x03 => parse1 (coded offOn .feed) ps
  | 0x04 => parse0 .ident ps
  | 0x05 => parse0 .softReset ps
  | 0x06 => parse2 (fun a b => .request (.lineFunction a.toNat b.toNat)) ps
  | 0x07 => parse3 (fun a b c => .request (.setting a.toNat (num16 b c))) ps
  | 0x08 => parse0 .settingsRead ps
  | _ => .unknown

/-- Codes 0x10 to 0x18. -/
def parseTransport (code : Nat) (ps : List Byte) : Parsed :=
  match code with
  | 0x10 => parse0 .play ps
  | 0x11 => parse0 .record ps
  | 0x12 => parse0 .pause ps
  | 0x13 => parse0 .stop ps
  | 0x14 => parse0 .halt ps
  | 0x15 => parse1 (coded [WindDir.ff, WindDir.rew] .wind) ps
  | 0x16 => parse1 (coded [SearchDir.fwd, SearchDir.rev] .search) ps
  | 0x17 => parse0 .eject ps
  | 0x18 => parse1 (coded [Speed.std, Speed.long] .speed) ps
  | _ => .unknown

/-- Codes 0x20 to 0x29. -/
def parsePosition (code : Nat) (ps : List Byte) : Parsed :=
  match code with
  | 0x20 => parse1 (coded [CounterMode.tape, CounterMode.zero, CounterMode.remain] .counterMode) ps
  | 0x21 => parse0 .counterZero ps
  | 0x22 => parse1 (coded offOn .memoryStop) ps
  | 0x28 => parse1 (fun a => .request (.seekTitle a.toNat)) ps
  | 0x29 => parse0 .seekEnd ps
  | _ => .unknown

/-- Codes 0x30 to 0x36. -/
def parseCassette (code : Nat) (ps : List Byte) : Parsed :=
  match code with
  | 0x30 => parse1 (fun a => .request (.cassetteList a.toNat)) ps
  | 0x31 => parse2 (fun a b => .request (.cassetteRead (num16 a b))) ps
  | 0x32 => parseTail2 (fun a b rest => parseText (.cassetteLabel (num16 a b)) rest) ps
  | 0x33 => parse3 (fun a b c => .request (.cassetteClass (num16 a b) c.toNat)) ps
  | 0x34 => parse0 .cassetteRegister ps
  | 0x35 => parse2 (fun a b => .request (.cassetteAssign (num16 a b))) ps
  | 0x36 => parse2 (fun a b => .request (.cassetteRetire (num16 a b))) ps
  | _ => .unknown

/-- Codes 0x38 to 0x3D. -/
def parseTitle (code : Nat) (ps : List Byte) : Parsed :=
  match code with
  | 0x38 => parse3 (fun a b c => .request (.titleRead (num16 a b) c.toNat)) ps
  | 0x39 => parse3 (fun a b c => .request (.titleReadSlot (num16 a b) c.toNat)) ps
  | 0x3A => parseTail3 (fun a b c rest => parseText (.titleName (num16 a b) c.toNat) rest) ps
  | 0x3B => parse4 (fun a b c d => coded offOn (.titleProtect (num16 a b) c.toNat) d) ps
  | 0x3C => parse3 (fun a b c => .request (.titleRetire (num16 a b) c.toNat)) ps
  | 0x3D => parseTail3 (fun a b c rest => match rest with
    | [] => .range
    | kind :: key => parseKey (num16 a b) c.toNat kind key) ps
  | _ => .unknown

/-- Codes 0x40 to 0x4D. -/
def parseTuner (code : Nat) (ps : List Byte) : Parsed :=
  match code with
  | 0x40 => parse1 (fun a => .request (.tune a.toNat)) ps
  | 0x41 => parse1 (fun a => .request (.tuneStep a.toNat)) ps
  | 0x42 => parse1 (fun a => .request (.presetRead a.toNat)) ps
  | 0x43 => parsePreset ps
  | 0x44 => parse1 (fun a => .request (.presetStoreCurrent a.toNat)) ps
  | 0x45 => parse2 (fun a b => .request (.presetSwap a.toNat b.toNat)) ps
  | 0x46 => parse1 (fun a => .request (.presetClear a.toNat)) ps
  | 0x47 => parse1 (fun a => .request (.fine (signed8 a))) ps
  | 0x48 => parse0 .aftStore ps
  | 0x4C => parse2 (fun a b => .request (.scan a.toNat b.toNat)) ps
  | 0x4D => parse0 .scanStop ps
  | _ => .unknown

/-- Codes 0x50 to 0x53. -/
def parseClock (code : Nat) (ps : List Byte) : Parsed :=
  match code with
  | 0x50 => parse0 .clockRead ps
  | 0x51 => parse5 (fun a b c d e => .request (.clockSet (num16 a b) c.toNat d.toNat e.toNat)) ps
  | 0x52 => parse1 (fun a => .request (.clockShift a.toNat)) ps
  | 0x53 => parse2 (fun a b => .request (.clockTrim (signed16 a b))) ps
  | _ => .unknown

/-- Codes 0x60 to 0x6A. -/
def parseProgramme (code : Nat) (ps : List Byte) : Parsed :=
  match code with
  | 0x60 => parse1 (fun a => .request (if a.toNat = 0xFF then .editOpenNew else .editOpen a.toNat)) ps
  | 0x61 => parse3 (fun a b c => .request (.editSet a.toNat (num16 b c))) ps
  | 0x62 => parse0 .editCommit ps
  | 0x63 => parse0 .editDiscard ps
  | 0x64 => parse1 (fun a => .request (.programmeRead a.toNat)) ps
  | 0x65 => parse1 (fun a => .request (.programmeEnable a.toNat)) ps
  | 0x66 => parse1 (fun a => .request (.programmeDisable a.toNat)) ps
  | 0x67 => parse1 (fun a => .request (.programmeClear a.toNat)) ps
  | 0x68 => parse1 (coded offOn .power) ps
  | 0x69 => parse0 .timerArm ps
  | 0x6A => parse0 .timerDisarm ps
  | _ => .unknown

/-- Codes 0x70 to 0x79. -/
def parseLock (code : Nat) (ps : List Byte) : Parsed :=
  match code with
  | 0x70 => parse2 (fun a b => .request (.unlock (num16 a b))) ps
  | 0x71 => parse0 .relock ps
  | 0x72 => parse4 (fun a b c d => .request (.codeSet (num16 a b) (num16 c d))) ps
  | 0x73 => parse2 (fun a b => coded offOn (.lockPreset a.toNat) b) ps
  | 0x74 => parse4 (fun a b c d => coded offOn (.lockTitle (num16 a b) c.toNat) d) ps
  | 0x78 => parse0 .wipePrepare ps
  | 0x79 => parse1 (fun a => .request (.wipe a.toNat)) ps
  | _ => .unknown

/-- The request of a command code and its parameters, the code checked before the count (R196). -/
def parseCode (code : Nat) (ps : List Byte) : Parsed :=
  if code < 0x10 then parseLink code ps
  else if code < 0x20 then parseTransport code ps
  else if code < 0x30 then parsePosition code ps
  else if code < 0x38 then parseCassette code ps
  else if code < 0x40 then parseTitle code ps
  else if code < 0x50 then parseTuner code ps
  else if code < 0x60 then parseClock code ps
  else if code < 0x70 then parseProgramme code ps
  else parseLock code ps

/-- The checks of R196 on a request: UNKNOWN for a code outside the list, RANGE for a count above 30 or a count that differs
from the layout's. -/
def parse (code : Nat) (ps : List Byte) : Parsed :=
  match parseCode code ps with
  | .unknown => .unknown
  | .range => .range
  | .request i => if 30 < ps.length then .range else .request i

/-- A frame's bytes: the request's code, count and parameters, or none when the frame is short (R195). -/
def parseFrame : List Byte → Option Parsed
  | code :: n :: rest => if n.toNat ≤ rest.length then some (parse code.toNat (rest.take n.toNat)) else none
  | _ => none

/-! ### The frame of a request -/

/-- The byte of a coded parameter. -/
def Choice.byte {α : Type} (code : α → Nat) : Choice α → Byte
  | .of v => b8 (code v)
  | .other n => b8 n

/-- Off and on as a byte. -/
def onByte (on : Choice Bool) : Byte := Choice.byte (fun b => bitAt b 0) on

/-- The code of a winding direction (11.9). -/
def windCode : WindDir → Nat
  | .ff => 0
  | .rew => 1

/-- The code of a search direction (11.9). -/
def searchCode : SearchDir → Nat
  | .fwd => 0
  | .rev => 1

/-- The command code and the parameters of a request (11.9); none for a command that is not one request of the list. -/
def Instr.spell : Instr → Option (Nat × List Byte)
  | .null => some (0x00, [])
  | .notices => some (0x01, [])
  | .status => some (0x02, [])
  | .feed on => some (0x03, [onByte on])
  | .ident => some (0x04, [])
  | .softReset => some (0x05, [])
  | .lineFunction line fn => some (0x06, [b8 line, b8 fn])
  | .setting item value => some (0x07, b8 item :: be16 value)
  | .settingsRead => some (0x08, [])
  | .play => some (0x10, [])
  | .record => some (0x11, [])
  | .pause => some (0x12, [])
  | .stop => some (0x13, [])
  | .halt => some (0x14, [])
  | .wind dir => some (0x15, [Choice.byte windCode dir])
  | .search dir => some (0x16, [Choice.byte searchCode dir])
  | .eject => some (0x17, [])
  | .speed v => some (0x18, [Choice.byte speedCode v])
  | .counterMode m => some (0x20, [Choice.byte counterModeCode m])
  | .counterZero => some (0x21, [])
  | .memoryStop on => some (0x22, [onByte on])
  | .seekTitle slot => some (0x28, [b8 slot])
  | .seekEnd => some (0x29, [])
  | .cassetteList index => some (0x30, [b8 index])
  | .cassetteRead tag => some (0x31, be16 tag)
  | .cassetteLabel tag text => some (0x32, be16 tag ++ textBytes text)
  | .cassetteClass tag cls => some (0x33, be16 tag ++ [b8 cls])
  | .cassetteRegister => some (0x34, [])
  | .cassetteAssign tag => some (0x35, be16 tag)
  | .cassetteRetire tag => some (0x36, be16 tag)
  | .titleRead tag index => some (0x38, be16 tag ++ [b8 index])
  | .titleReadSlot tag slot => some (0x39, be16 tag ++ [b8 slot])
  | .titleName tag index text => some (0x3A, be16 tag ++ b8 index :: textBytes text)
  | .titleProtect tag index on => some (0x3B, be16 tag ++ [b8 index, onByte on])
  | .titleRetire tag index => some (0x3C, be16 tag ++ [b8 index])
  | .titleFind tag index key => match key with
    | .namePrefix t => some (0x3D, be16 tag ++ b8 index :: 0 :: textBytes t)
    | .source n => some (0x3D, be16 tag ++ [b8 index, 1, b8 n])
    | .other kind => some (0x3D, be16 tag ++ [b8 index, b8 kind])
  | .tune source => some (0x40, [b8 source])
  | .tuneStep dir => some (0x41, [b8 dir])
  | .presetRead n => some (0x42, [b8 n])
  | .presetWrite n p => some (0x43,
      [b8 n, b8 (2 * p.band + bitAt p.aft 3 + bitAt p.skip 4 + 64 * p.sound)] ++ be16 p.base ++ b8 (twos 8 p.fine) ::
        textBytes p.name)
  | .presetStoreCurrent n => some (0x44, [b8 n])
  | .presetSwap a b => some (0x45, [b8 a, b8 b])
  | .presetClear n => some (0x46, [b8 n])
  | .fine delta => some (0x47, [b8 (twos 8 delta)])
  | .aftStore => some (0x48, [])
  | .scan mode first => some (0x4C, [b8 mode, b8 first])
  | .scanStop => some (0x4D, [])
  | .clockRead => some (0x50, [])
  | .clockSet day h m sec => some (0x51, be16 day ++ [b8 h, b8 m, b8 sec])
  | .clockShift dir => some (0x52, [b8 dir])
  | .clockTrim c => some (0x53, be16 (twos 16 c))
  | .editOpen slot => if slot = 0xFF then none else some (0x60, [b8 slot])
  | .editOpenNew => some (0x60, [0xFF])
  | .editSet field value => some (0x61, b8 field :: be16 value)
  | .editCommit => some (0x62, [])
  | .editDiscard => some (0x63, [])
  | .programmeRead slot => some (0x64, [b8 slot])
  | .programmeEnable slot => some (0x65, [b8 slot])
  | .programmeDisable slot => some (0x66, [b8 slot])
  | .programmeClear slot => some (0x67, [b8 slot])
  | .power on => some (0x68, [onByte on])
  | .timerArm => some (0x69, [])
  | .timerDisarm => some (0x6A, [])
  | .unlock code => some (0x70, be16 code)
  | .relock => some (0x71, [])
  | .codeSet old new => some (0x72, be16 old ++ be16 new)
  | .lockPreset n on => some (0x73, [b8 n, onByte on])
  | .lockTitle tag slot on => some (0x74, be16 tag ++ [b8 slot, onByte on])
  | .wipePrepare => some (0x78, [])
  | .wipe region => some (0x79, [b8 region])
  | .unknownRequest _ _ | .shortFrame | .notReadyFrame
  | .cassetteIn | .loadingComplete _ _ | .loadingTimeout | .threadingComplete | .threadingDrumTimeout | .threadingTimeout
  | .unthreadingComplete | .unthreadingTimeout | .ejectingComplete | .ejectingTimeout | .mechanismSwitchChange _
  | .dewActive | .dewInactive | .dewWaitExpiry | .takeUpTachEdge | .supplyTachEdge | .reelWatchExpiry | .stillLimit
  | .recPauseLimit | .readyIdleLimit | .drumPgPulse _ | .drumLock | .drumUnlockTimeout | .controlTrackPulse _ _
  | .capstanLock | .capstanSpeedSwitch | .noCtlTimeout | .capstanPulse | .countingStep | .ffWindStep | .rewWindStep
  | .supplyMeasurementComplete | .takeUpMeasurementComplete | .botAnchor _ | .markDecoded _ | .markPassed
  | .markComplete | .powerWarning | .powerWarningClear | .powerUp _ | .mainPowerLoss _ | .holdLoss | .secondEvent
  | .transportFreeEvaluation | .aftSample _ _ | .searchSweepStep _ | .searchCaptureSample _ _ | .extRecFallingEdge
  | .extRecRisingEdge | .timerKeyEdge | .ejectKeyEdge | .stopKeyEdge | .storeWriteComplete => none

/-- The bytes of the frame that carries a request (11.8). -/
def Instr.frame (i : Instr) : Option (List Byte) :=
  (Instr.spell i).map fun r => b8 r.1 :: b8 r.2.length :: r.2

/-! ### UNKNOWN-REQUEST -/

/-- The result of a request that the link interface refuses (R196); none for one that it hands on. -/
def Parsed.refusal : Parsed → Option Result
  | .unknown => some .unknown
  | .range => some .range
  | .request _ => Option.none

/-- A request that the link interface refuses (R196): it reaches no block. A frame that spells a request of the list is that
request's own command, and as this one it is no event. -/
def execUnknownRequest (code : Nat) (params : List Byte) (s : State) : Host.Outcome State Fault Refusal :=
  .next (match (parse code params).refusal with
    | some r => request false (answer r) s
    | none => s)

end Sys2Proof.Machine
end

