-- ==== Sys2Proof/Machine/Transport.lean ====
section
/-! DEFINITION. The transport requests (1.4), the requests of the position unit (2.4) and the seeks (3.5), with the two
function keys that act as requests (R14). -/

namespace Sys2Proof.Machine

open Sys2Proof

/-! ### Refusals (R16) -/

/-- How a request stands in the table of R16. -/
inductive TransportKind where
  | stop | eject | other
  deriving DecidableEq, Repr

/-- The table of R16. -/
def refusals (k : TransportKind) (s : State) : List (Bool × Result) :=
  let notEject := k != .eject
  [(s.pins.powerWarning, .state),
    (standby s && (notEject || running s), .state),
    (s.hold.power == .on && running s && k != .stop, .busy),
    (s.hold.power == .off && notEject, .state),
    ((s.mech.mode == .empty || s.mech.mode == .ejecting) && notEject, .state),
    (s.mech.mode == .fault && (notEject || s.mech.stuck), .state),
    (s.mech.dewLock && notEject, .state)]

/-- A request checked against R16 and then against its own refusals. -/
def transport (k : TransportKind) (own : State → List (Bool × Result)) (body : Body) : Body :=
  checked (fun s => refusals k s ++ own s) body

/-- No refusal of the request's own. -/
def noRefusal (_ : State) : List (Bool × Result) := []

/-- A taken request that sets a target and is answered OK. -/
def takeTarget (m : Mode) : Body := fun s => okay (hostTargetTo m s)

/-! ### Taken requests -/

/-- The target of STOP (R13). -/
def stopTarget : Mode → Mode
  | .ready | .play | .still | .searchFwd | .searchRev | .recording | .recPause => .ready
  | .threading => .ready
  | .ff | .rew | .halted | .loading | .unthreading => .halted
  | .empty | .ejecting | .fault => .halted

/-- STOP (R13); under condition 3 of R16 it first aborts the programme. -/
def stopBody : Body := transport .stop noRefusal fun s =>
  let s := when (running s) (endOccurrence .aborted true) s
  takeTarget (stopTarget s.mech.mode) s

/-- EJECT (R13, R18). -/
def ejectBody : Body := transport .eject noRefusal fun s =>
  takeTarget .empty (s.onMech fun m => { m with faultEject := m.mode == .fault || (m.mode.motion && m.faultEject) })

/-- RECORD, once R16 is passed (R12): a REC start that would be made while the request is being taken is tested first. -/
def recordBody : Body :=
  checked (fun s => [(!s.mech.tab, .barred)]) fun s =>
    if s.mech.mode.threaded && s.mech.cause == .none then
      let s := startSpeed s.settings.recordSpeed (askSource s)
      if startRefused s then answer .barred s else takeTarget .recording s
    else takeTarget .recording s

/-- The modes in which SEARCH is taken (R11). -/
def searchable (m : Mode) : Bool := m == .ready || m == .still || m == .play || m == .searchFwd || m == .searchRev

/-- PAUSE, once R16 is passed (R12). -/
def pauseBody : Body := fun s =>
  match s.mech.mode with
  | .play => takeTarget .still s
  | .still => takeTarget .play s
  | .recording => takeTarget .recPause s
  | .recPause => recordBody s
  | _ => answer .state s

/-- PLAY (R11). -/
def execPlay (s : State) : Host.Outcome State Fault Refusal :=
  .next (request false (transport .other noRefusal (takeTarget .play)) s)

/-- RECORD (R12). -/
def execRecord (s : State) : Host.Outcome State Fault Refusal :=
  .next (request false (transport .other noRefusal recordBody) s)

/-- PAUSE (R12). -/
def execPause (s : State) : Host.Outcome State Fault Refusal :=
  .next (request false (transport .other noRefusal pauseBody) s)

/-- STOP (R13). -/
def execStop (s : State) : Host.Outcome State Fault Refusal := .next (request false stopBody s)

/-- HALT (R13). -/
def execHalt (s : State) : Host.Outcome State Fault Refusal :=
  .next (request false (transport .other noRefusal (takeTarget .halted)) s)

/-- The mode of a winding direction. -/
def WindDir.mode : WindDir → Mode
  | .ff => .ff
  | .rew => .rew

/-- The mode of a search direction. -/
def SearchDir.mode : SearchDir → Mode
  | .fwd => .searchFwd
  | .rev => .searchRev

/-- WIND (R13); a direction that is neither is RANGE once R16 is passed (R196, log entry 40). -/
def execWind (dir : Choice WindDir) (s : State) : Host.Outcome State Fault Refusal :=
  .next (request false (transport .other noRefusal (chosen dir fun d => takeTarget (WindDir.mode d))) s)

/-- SEARCH (R11); a direction that is neither is RANGE once R16 is passed, before the mode is looked at (R196, log entry 40). -/
def execSearch (dir : Choice SearchDir) (s : State) : Host.Outcome State Fault Refusal :=
  .next (request false (transport .other noRefusal (chosen dir fun d =>
    checked (fun u => [(!searchable u.mech.mode, .state)]) (takeTarget (SearchDir.mode d)))) s)

/-- EJECT (R13, R18). -/
def execEject (s : State) : Host.Outcome State Fault Refusal := .next (request false ejectBody s)

/-- SPEED (R14); a speed that is neither is RANGE once R16 is passed (R196, log entry 40). -/
def execSpeed (v : Choice Speed) (s : State) : Host.Outcome State Fault Refusal :=
  .next (request false (transport .other noRefusal (chosen v fun w u =>
    okay (restartReady (setSettings (fun k => { k with recordSpeed := w }) u)))) s)

/-! ### Position requests (R41, R42) -/

/-- COUNTER-MODE (R41). -/
def execCounterMode (m : Choice CounterMode) (s : State) : Host.Outcome State Fault Refusal :=
  .next (request false (chosen m fun v u => okay (setSettings (fun k => { k with counterMode := v }) u)) s)

/-- COUNTER-ZERO (R41). -/
def execCounterZero (s : State) : Host.Outcome State Fault Refusal :=
  .next (request false (checked (fun u => [(!loaded u, .state)]) fun u =>
    okay (u.onPos fun p => { p with zero := p.place.map (·.p) })) s)

/-- MEMORY-STOP (R42). -/
def execMemoryStop (on : Choice Bool) (s : State) : Host.Outcome State Fault Refusal :=
  .next (request false (chosen on fun b u => okay (u.onPos fun p => { p with memoryStop := b })) s)

/-! ### Seeks (R66, R70) -/

/-- The slot is held by a live anchored title of the cassette named by the identity (R66). -/
def seekable (s : State) (slot : Nat) : Bool :=
  match s.cue.identity.tag.bind fun tag => titleBySlot s tag slot with
  | some (_, t) => t.anchored
  | none => false

/-- The refusals of a seek beyond R16, `found` telling whether its place is known to the catalogue (R66, R70). -/
def seekRefusals (found : State → Bool) (s : State) : List (Bool × Result) :=
  [(s.mech.mode.inRecording, .state), (s.cue.identity.tag.isNone || !found s, .absent), ((anchoredP s).isNone, .state)]

/-- A taken seek: it replaces the pending target and a running seek, and begins (R66). -/
def takeSeek (kind : State → SeekKind) : Body := fun s => okay (beginSeek (kind s) (displace s))

/-- SEEK-TITLE (R66). -/
def execSeekTitle (slot : Nat) (s : State) : Host.Outcome State Fault Refusal :=
  .next (request false (transport .other (seekRefusals fun u => seekable u slot)
    (takeSeek fun u => .title (u.cue.identity.tag.getD 0) slot)) s)

/-- SEEK-END (R70). -/
def execSeekEnd (s : State) : Host.Outcome State Fault Refusal :=
  .next (request false (transport .other (seekRefusals fun _ => true)
    (takeSeek fun u => .endOf (endTarget u (u.cue.identity.tag.getD 0)))) s)

/-! ### Keys (R14, R203) -/

/-- A falling edge of the line that holds a function: it acts as the request would, and gives no answer. -/
def keyEdge (f : LineFn) (body : Body) (s : State) : State :=
  if lineAssigned s f then deckEvent (setLine f true) (fun u => (body u).2) s else s

/-- A falling edge of an EJECT-KEY line (R14). -/
def execEjectKeyEdge (s : State) : Host.Outcome State Fault Refusal := .next (keyEdge .ejectKey ejectBody s)

/-- A falling edge of a STOP-KEY line (R14). -/
def execStopKeyEdge (s : State) : Host.Outcome State Fault Refusal := .next (keyEdge .stopKey stopBody s)

end Sys2Proof.Machine
end

