-- ==== Sys2Proof/Machine/Dispatch.lean ====
section
/-! DEFINITION. The effect of each command on everything but the queue of waiting commands: one meaning for each row of
the table. -/

namespace Sys2Proof.Machine

open Sys2Proof

def exec (i : Instr) (s : State) : Host.Outcome State Fault Refusal :=
  match i with
  | .null => Sys2Proof.Machine.execNull s
  | .notices => Sys2Proof.Machine.execNotices s
  | .status => Sys2Proof.Machine.execStatus s
  | .feed on => Sys2Proof.Machine.execFeed on s
  | .ident => Sys2Proof.Machine.execIdent s
  | .softReset => Sys2Proof.Machine.execSoftReset s
  | .lineFunction line fn => Sys2Proof.Machine.execLineFunction line fn s
  | .setting item value => Sys2Proof.Machine.execSetting item value s
  | .settingsRead => Sys2Proof.Machine.execSettingsRead s
  | .unknownRequest code params => Sys2Proof.Machine.execUnknownRequest code params s
  | .shortFrame => Sys2Proof.Machine.execShortFrame s
  | .notReadyFrame => Sys2Proof.Machine.execNotReadyFrame s
  | .play => Sys2Proof.Machine.execPlay s
  | .record => Sys2Proof.Machine.execRecord s
  | .pause => Sys2Proof.Machine.execPause s
  | .stop => Sys2Proof.Machine.execStop s
  | .halt => Sys2Proof.Machine.execHalt s
  | .wind dir => Sys2Proof.Machine.execWind dir s
  | .search dir => Sys2Proof.Machine.execSearch dir s
  | .eject => Sys2Proof.Machine.execEject s
  | .speed v => Sys2Proof.Machine.execSpeed v s
  | .counterMode m => Sys2Proof.Machine.execCounterMode m s
  | .counterZero => Sys2Proof.Machine.execCounterZero s
  | .memoryStop on => Sys2Proof.Machine.execMemoryStop on s
  | .seekTitle slot => Sys2Proof.Machine.execSeekTitle slot s
  | .seekEnd => Sys2Proof.Machine.execSeekEnd s
  | .cassetteList index => Sys2Proof.Machine.execCassetteList index s
  | .cassetteRead tag => Sys2Proof.Machine.execCassetteRead tag s
  | .cassetteLabel tag text => Sys2Proof.Machine.execCassetteLabel tag text s
  | .cassetteClass tag cls => Sys2Proof.Machine.execCassetteClass tag cls s
  | .cassetteRegister => Sys2Proof.Machine.execCassetteRegister s
  | .cassetteAssign tag => Sys2Proof.Machine.execCassetteAssign tag s
  | .cassetteRetire tag => Sys2Proof.Machine.execCassetteRetire tag s
  | .titleRead tag index => Sys2Proof.Machine.execTitleRead tag index s
  | .titleReadSlot tag slot => Sys2Proof.Machine.execTitleReadSlot tag slot s
  | .titleName tag index text => Sys2Proof.Machine.execTitleName tag index text s
  | .titleProtect tag index on => Sys2Proof.Machine.execTitleProtect tag index on s
  | .titleRetire tag index => Sys2Proof.Machine.execTitleRetire tag index s
  | .titleFind tag index key => Sys2Proof.Machine.execTitleFind tag index key s
  | .tune source => Sys2Proof.Machine.execTune source s
  | .tuneStep dir => Sys2Proof.Machine.execTuneStep dir s
  | .presetRead n => Sys2Proof.Machine.execPresetRead n s
  | .presetWrite n p => Sys2Proof.Machine.execPresetWrite n p s
  | .presetStoreCurrent n => Sys2Proof.Machine.execPresetStoreCurrent n s
  | .presetSwap a b => Sys2Proof.Machine.execPresetSwap a b s
  | .presetClear n => Sys2Proof.Machine.execPresetClear n s
  | .fine delta => Sys2Proof.Machine.execFine delta s
  | .aftStore => Sys2Proof.Machine.execAftStore s
  | .scan mode first => Sys2Proof.Machine.execScan mode first s
  | .scanStop => Sys2Proof.Machine.execScanStop s
  | .clockRead => Sys2Proof.Machine.execClockRead s
  | .clockSet day hours minutes seconds => Sys2Proof.Machine.execClockSet day hours minutes seconds s
  | .clockShift dir => Sys2Proof.Machine.execClockShift dir s
  | .clockTrim c => Sys2Proof.Machine.execClockTrim c s
  | .editOpen slot => Sys2Proof.Machine.execEditOpen slot s
  | .editOpenNew => Sys2Proof.Machine.execEditOpenNew s
  | .editSet field value => Sys2Proof.Machine.execEditSet field value s
  | .editCommit => Sys2Proof.Machine.execEditCommit s
  | .editDiscard => Sys2Proof.Machine.execEditDiscard s
  | .programmeRead slot => Sys2Proof.Machine.execProgrammeRead slot s
  | .programmeEnable slot => Sys2Proof.Machine.execProgrammeEnable slot s
  | .programmeDisable slot => Sys2Proof.Machine.execProgrammeDisable slot s
  | .programmeClear slot => Sys2Proof.Machine.execProgrammeClear slot s
  | .power on => Sys2Proof.Machine.execPower on s
  | .timerArm => Sys2Proof.Machine.execTimerArm s
  | .timerDisarm => Sys2Proof.Machine.execTimerDisarm s
  | .unlock code => Sys2Proof.Machine.execUnlock code s
  | .relock => Sys2Proof.Machine.execRelock s
  | .codeSet old new => Sys2Proof.Machine.execCodeSet old new s
  | .lockPreset n on => Sys2Proof.Machine.execLockPreset n on s
  | .lockTitle tag slot on => Sys2Proof.Machine.execLockTitle tag slot on s
  | .wipePrepare => Sys2Proof.Machine.execWipePrepare s
  | .wipe region => Sys2Proof.Machine.execWipe region s
  | .cassetteIn => Sys2Proof.Machine.execCassetteIn s
  | .loadingComplete tab bot => Sys2Proof.Machine.execLoadingComplete tab bot s
  | .loadingTimeout => Sys2Proof.Machine.execLoadingTimeout s
  | .threadingComplete => Sys2Proof.Machine.execThreadingComplete s
  | .threadingDrumTimeout => Sys2Proof.Machine.execThreadingDrumTimeout s
  | .threadingTimeout => Sys2Proof.Machine.execThreadingTimeout s
  | .unthreadingComplete => Sys2Proof.Machine.execUnthreadingComplete s
  | .unthreadingTimeout => Sys2Proof.Machine.execUnthreadingTimeout s
  | .ejectingComplete => Sys2Proof.Machine.execEjectingComplete s
  | .ejectingTimeout => Sys2Proof.Machine.execEjectingTimeout s
  | .mechanismSwitchChange c => Sys2Proof.Machine.execMechanismSwitchChange c s
  | .dewActive => Sys2Proof.Machine.execDewActive s
  | .dewInactive => Sys2Proof.Machine.execDewInactive s
  | .dewWaitExpiry => Sys2Proof.Machine.execDewWaitExpiry s
  | .takeUpTachEdge => Sys2Proof.Machine.execTakeUpTachEdge s
  | .supplyTachEdge => Sys2Proof.Machine.execSupplyTachEdge s
  | .reelWatchExpiry => Sys2Proof.Machine.execReelWatchExpiry s
  | .stillLimit => Sys2Proof.Machine.execStillLimit s
  | .recPauseLimit => Sys2Proof.Machine.execRecPauseLimit s
  | .readyIdleLimit => Sys2Proof.Machine.execReadyIdleLimit s
  | .drumPgPulse period => Sys2Proof.Machine.execDrumPgPulse period s
  | .drumLock => Sys2Proof.Machine.execDrumLock s
  | .drumUnlockTimeout => Sys2Proof.Machine.execDrumUnlockTimeout s
  | .controlTrackPulse period width => Sys2Proof.Machine.execControlTrackPulse period width s
  | .capstanLock => Sys2Proof.Machine.execCapstanLock s
  | .capstanSpeedSwitch => Sys2Proof.Machine.execCapstanSpeedSwitch s
  | .noCtlTimeout => Sys2Proof.Machine.execNoCtlTimeout s
  | .capstanPulse => Sys2Proof.Machine.execCapstanPulse s
  | .countingStep => Sys2Proof.Machine.execCountingStep s
  | .ffWindStep => Sys2Proof.Machine.execFfWindStep s
  | .rewWindStep => Sys2Proof.Machine.execRewWindStep s
  | .supplyMeasurementComplete => Sys2Proof.Machine.execSupplyMeasurementComplete s
  | .takeUpMeasurementComplete => Sys2Proof.Machine.execTakeUpMeasurementComplete s
  | .botAnchor active => Sys2Proof.Machine.execBotAnchor active s
  | .markDecoded bits => Sys2Proof.Machine.execMarkDecoded bits s
  | .markPassed => Sys2Proof.Machine.execMarkPassed s
  | .markComplete => Sys2Proof.Machine.execMarkComplete s
  | .powerWarning => Sys2Proof.Machine.execPowerWarning s
  | .powerWarningClear => Sys2Proof.Machine.execPowerWarningClear s
  | .powerUp inputs => Sys2Proof.Machine.execPowerUp inputs s
  | .mainPowerLoss damaged => Sys2Proof.Machine.execMainPowerLoss damaged s
  | .holdLoss => Sys2Proof.Machine.execHoldLoss s
  | .secondEvent => Sys2Proof.Machine.execSecondEvent s
  | .transportFreeEvaluation => Sys2Proof.Machine.execTransportFreeEvaluation s
  | .aftSample sync d => Sys2Proof.Machine.execAftSample sync d s
  | .searchSweepStep sync => Sys2Proof.Machine.execSearchSweepStep sync s
  | .searchCaptureSample sync d => Sys2Proof.Machine.execSearchCaptureSample sync d s
  | .extRecFallingEdge => Sys2Proof.Machine.execExtRecFallingEdge s
  | .extRecRisingEdge => Sys2Proof.Machine.execExtRecRisingEdge s
  | .timerKeyEdge => Sys2Proof.Machine.execTimerKeyEdge s
  | .ejectKeyEdge => Sys2Proof.Machine.execEjectKeyEdge s
  | .stopKeyEdge => Sys2Proof.Machine.execStopKeyEdge s
  | .storeWriteComplete => Sys2Proof.Machine.execStoreWriteComplete s

end Sys2Proof.Machine
end

