-- ==== Sys2Proof/Machine/Step.lean ====
section
/-! DEFINITION. One step of the block: the command at the front of the queue, or one crystal count when none waits. -/

namespace Sys2Proof.Machine

open Sys2Proof

/-- One step: the first waiting command leaves the queue and has its effect; with none waiting the crystal of the hold domain
counts once (R130). Log entry 7. -/
def step (s : State) : Host.Outcome State Fault Refusal :=
  match s.pending with
  | c :: rest => exec c { s with pending := rest }
  | [] => .next (crystalCount s)

/-- The state with the command that a word spells put at the front of the queue: no row of the table gives bits, so a word
spells no command and the state is unchanged. -/
def State.withFetchWord (s : State) (_nbits _w : Nat) : State := s

end Sys2Proof.Machine
end

