-- ==== Sys2Proof/Safety.lean ====
section
/-! DEFINITION. The terms in which statements speak of a command: when a frame is taken and an event acts, what a command
leaves (and leaves alone), and the invariants of the machine. -/

namespace Sys2Proof.Machine

open Sys2Proof

/-! ### When a command acts -/

/-- The request of a frame that begins now is taken (R195): main power is present and the answer buffer is ready. -/
def Taken (s : State) : Prop := s.mainPower = true ∧ ∃ a, s.link.buffer = .ready a

/-- No programme waits for its check of R168 in a state in which that check is due. -/
def Quiet (s : State) : Prop := checkDue s = false

/-- A request of the host: a command that a frame of the control link spells. -/
def isRequest (i : Instr) : Prop := (Instr.spell i).isSome = true

/-! ### What a command leaves -/

/-- The state without what every step works out afresh or only adds to: the notice set, the queue of writes, the current title
and the seen flag that follows it, the counter value last reported, and the model's own agenda, free latch, count of steps and
crossing flag. -/
def State.plain (s : State) : State :=
  { s with
    pos := { s.pos with shown := .absent }
    cat := { s.cat with current := none }
    tim := { s.tim with freeDue := false }
    lock := { s.lock with hold := s.lock.hold.map fun h => { h with seen := false } }
    store := { s.store with queue := [], flight := none }
    link := { s.link with notices := .empty }
    agenda := []
    openCount := 0
    crossed := false }

/-- A record waits for its write or is being written (R189). -/
def Awaits (r : RecordId) (s : State) : Prop :=
  r ∈ s.store.queue ∨ ∃ f, s.store.flight = some f ∧ f.copy.id = r

/-- What every step leaves up to date: the current title (R98), the counter value reported to the link interface (R43), no
record waiting while no write is in flight (R189), the evaluation asked for only while the transport is free (R165), and no
report left unread. -/
structure Fresh (s : State) : Prop where
  title : s.cat.current = currentOf s
  counter : s.pos.shown = counterValue s
  writing : s.store.flight = none → s.store.queue = []
  free : s.tim.freeDue = true → transportFree s = true
  agenda : s.agenda = []

/-- A notice set after notices of the given kinds, reasons and details have been raised in order (R197). -/
def noticesAfter (n : NoticeSet) : List (NoticeKind × Nat × Nat) → NoticeSet
  | [] => n
  | (k, reason, detail) :: rest => noticesAfter (n.put (mergeNotice k (n.get k) reason detail) k) rest

/-- From `s` a command has left `t`: everything that no step works out afresh is as in `want`; what a step works out afresh is
up to date; the notices `raised` have been raised in order and no others, save FEED notices while the feed is on; and the
records of `recs`, and no others, have come to await writing. -/
structure Leaves (s want t : State) (raised : List (NoticeKind × Nat × Nat)) (recs : List RecordId) : Prop where
  plain : t.plain = want.plain
  fresh : Fresh t
  notices : ∀ k, k ≠ .feed ∨ t.link.feed = false →
    t.link.notices.get k = (noticesAfter s.link.notices raised).get k
  marked : ∀ r, r ∈ recs → Awaits r t
  unmarked : ∀ r, Awaits r t → r ∈ recs ∨ Awaits r s

/-- The frame exchange of a taken request (R195, R192): what was in the buffer has been clocked out, the buffer is ready with
the answer, and the prepared flag is off. -/
def replied (r : Result) (data : List Byte) (s : State) : State :=
  { s with
    link := { s.link with sent := some s.link.buffer.clocked, buffer := .ready ⟨r, data⟩ }
    store := { s.store with isPrepared := false } }

/-- A command completes and leaves `want`. -/
def Becomes (i : Instr) (s want : State) (raised : List (NoticeKind × Nat × Nat)) (recs : List RecordId) : Prop :=
  ∃ t, exec i s = .next t ∧ Leaves s want t raised recs

/-- A request completes: it is answered with a result and data and leaves `want`. -/
def Replies (i : Instr) (s : State) (r : Result) (data : List Byte) (want : State)
    (raised : List (NoticeKind × Nat × Nat)) (recs : List RecordId) : Prop :=
  Becomes i s (replied r data want) raised recs

/-- A request is answered with a result and changes nothing else (R196). -/
def Refuses (i : Instr) (s : State) (r : Result) : Prop := Replies i s r [] s [] []

/-! ### The transport at rest -/

/-- Nothing of R16 stands in the way of a transport request, but for the mode. -/
structure Obeys (s : State) : Prop where
  warning : s.pins.powerWarning = false
  power : s.hold.power = .on
  run : s.tim.run = none
  dew : s.mech.dewLock = false

/-- No target is pending, no seek runs and no recording is open. -/
structure Unclaimed (s : State) : Prop where
  target : s.mech.target = none
  seek : s.cue.seek = none
  cause : s.mech.cause = .none

/-- The threaded modes outside a recording. -/
def Mode.idleThreaded (m : Mode) : Bool := m.threaded && !m.inRecording

/-- HALTED, FF and REW. -/
def Mode.unthreaded (m : Mode) : Bool := m == .halted || m.winding

/-- The target that a transport request other than RECORD and EJECT sets in a mode (R11 to R13); none where it is refused for
the mode. -/
def aimOf : Instr → Mode → Option Mode
  | .play, _ => some .play
  | .halt, _ => some .halted
  | .wind (.of .ff), _ => some .ff
  | .wind (.of .rew), _ => some .rew
  | .search (.of .fwd), m => if m = .ready ∨ m = .still ∨ m = .play ∨ m = .searchFwd ∨ m = .searchRev then some .searchFwd else none
  | .search (.of .rev), m => if m = .ready ∨ m = .still ∨ m = .play ∨ m = .searchFwd ∨ m = .searchRev then some .searchRev else none
  | .stop, m => if m.threaded ∨ m = .threading then some .ready else some .halted
  | .pause, .play => some .still
  | .pause, .still => some .play
  | _, _ => none

/-- The transport requests of R16. -/
def isTransport : Instr → Bool
  | .play | .record | .pause | .stop | .halt | .wind _ | .search _ | .eject | .speed _ | .seekTitle _ | .seekEnd => true
  | _ => false

/-- One direct change of mode or start of a motion (R1): the mechanism controller, the position unit and the cue unit. -/
def entered (new : Mode) (s : State) : State :=
  { s with
    mech := Mech.enter s.tim.run.isNone new s.mech
    pos := (posModeChange s.mech.mode new s).pos
    cue := Cue.enter s.mech.mode new s.cue }

/-- A tuner record with a source made current as TUNE makes it (R104, R111): the stored tuning of a used preset, offset 0, AFT
settling where the preset has it on; for a line input the working tuning with its offset 0 and AFT off (log entry 25); none for
an EMPTY preset. -/
def tunedTo (n : Nat) (t : Tun) (s : State) : Option Tun :=
  match presetAt s n with
  | some p =>
    if p.used then
      some { t with
        source := n, working := ⟨p.band, p.base, p.fine, p.aft, p.sound, 0⟩, aftCount := 0
        aft := if isLine n = false ∧ p.aft = true then .settling else .off }
    else none
  | none =>
    some { t with
      source := n, working := { t.working with offset := 0 }, aftCount := 0
      aft := if isLine n = false ∧ t.working.aft = true then .settling else .off }

/-- The tuner given back to VIEW (R117): the saved view source is tuned as TUNE would tune it; an EMPTY preset, or no saved
source, leaves source and tuning as they stand. -/
def givenBack (s : State) : Tun :=
  let t := { s.tun with owner := .view, saved := none }
  match s.tun.saved with
  | none => t
  | some n => (tunedTo n t s).getD t

/-- The minute index that a second event brings now to (R131, R139, R180), where the clock goes on within its day: with nothing
staged, or with a SHIFT staged, which moves the counted time by an hour. -/
abbrev NextNow (s : State) (now : Nat) : Prop :=
  (s.hold.staged = .none ∧ s.hold.seconds < 86399 ∧ now = s.hold.day * 1440 + (s.hold.seconds + 1) / 60) ∨
  (s.hold.staged = .shift true ∧ s.hold.seconds < 82799 ∧ now = s.hold.day * 1440 + (s.hold.seconds + 3601) / 60) ∨
  (s.hold.staged = .shift false ∧ 3599 ≤ s.hold.seconds ∧ s.hold.seconds < 86399 ∧
    now = s.hold.day * 1440 + (s.hold.seconds - 3599) / 60)

/-- The fit of an occurrence when now is `now`, the remaining figure being `rem` (R171). -/
def fitAt (o : Occurrence) (now : Nat) (rem : Option Int) (s : State) : Fit :=
  match rem with
  | none => .unknown
  | some r => fitOf (fr s) (fitLength s r) (fitSeconds o now)

/-- The plan and first speed of a programme at a REC start (R168, R171): its own speed FIXED, or those of the fit. -/
def planOf (v : ProgSpeed) (f : Fit) : Option (Plan × Speed) :=
  match v with
  | .std => some (.fixed .std, .std)
  | .long => some (.fixed .long, .long)
  | .fit => f.plan

/-- A programme has gone into RECORDING (R170): its run record and its slot say so, with the plan given, the transport is in REC
with cause PROGRAMME at the first speed of that plan, the tuner stays claimed, a title of that origin stands open in record `i`
with length 0, and STARTED is the last TIMER notice. -/
structure Begun (slot tag i : Nat) (p : Programme) (plan : Plan) (v : Speed) (late : Bool) (s t : State) : Prop where
  run : t.tim.run = some ⟨slot, .recording, ⟨late, false, false⟩, plan, 0⟩
  state : progAt t slot = some { p with state := .recording }
  mode : t.mech.mode = .recording
  cause : t.mech.cause = .programme slot
  speed : t.mech.recSpeed = v
  tuner : t.tun = s.tun
  title : (titleAt t i).map (fun x => (x.tag, x.origin, x.source, x.isOpen, x.length)) =
    some (tag, .programme slot, s.tun.source, true, 0)
  notice : (t.link.notices.get .timer).map (·.reason) = some startedReason

/-- The pending target set, or none. -/
def aiming (t : Option Target) (s : State) : State := { s with mech := { s.mech with target := t } }

/-- The last motion outcome set. -/
def ending (o : MotionOutcome) (s : State) : State := { s with mech := { s.mech with outcome := o } }

/-- The report of a motion outcome (R8). -/
def motionReport (o : MotionOutcome) : NoticeKind × Nat × Nat := (.motion, outcomeCode o, 0)

/-! ### Invariants -/

/-- The lock (R181): at most five attempts; the state is NONE exactly while no code is set; FROZEN exactly when a code is set
and no attempt is left. -/
structure LockOk (s : State) : Prop where
  attempts : s.lock.attempts ≤ 5
  none : s.lock.state = .none ↔ s.settings.lockCode = none
  frozen : s.lock.state = .frozen ↔ s.settings.lockCode.isSome = true ∧ s.lock.attempts = 0

/-- A position within the limits of R35. -/
def Place.ok (pl : Place) : Prop :=
  match pl.quality with
  | .unanchored => -Config.maxPos ≤ pl.p ∧ pl.p ≤ Config.maxPos
  | .exact => 0 ≤ pl.p ∧ pl.p ≤ Config.maxPos
  | .estimated => 0 ≤ pl.p ∧ pl.p ≤ Config.maxPos

/-- The position, if a load is in progress, is within the limits of R35. -/
def PlaceOk (s : State) : Prop := ∀ pl, s.pos.place = some pl → pl.ok

/-- No record stands twice in the write queue (R189). -/
def QueueOk (s : State) : Prop := s.store.queue.Nodup

/-- The programme being run (R163): a slot in PREROLL or RECORDING is the slot of the run record, which names the phase that
the slot is in; the slot of the run record is in PREROLL or RECORDING; the record cause is PROGRAMME n only while the run
record of n is RECORDING, and EXTERNAL only while the external record is; the engine's target REC is that of an external
recording in STARTING (R176); a recording is in progress in REC and REC-PAUSE alone (R28); and a mark is written only in REC,
while one is (R54, R55). -/
structure RunOk (s : State) : Prop where
  slot : ∀ n p, progAt s n = some p → p.state = .preroll ∨ p.state = .recording →
    ∃ run, s.tim.run = some run ∧ run.slot = n ∧ (p.state = .recording ↔ run.phase = .recording)
  running : ∀ run, s.tim.run = some run → ∃ p, progAt s run.slot = some p ∧ (p.state = .preroll ∨ p.state = .recording)
  programme : ∀ n, s.mech.cause = .programme n → ∃ run, s.tim.run = some run ∧ run.slot = n ∧ run.phase = .recording
  external : s.mech.cause = .external → s.tim.ext = .recording
  starting : s.mech.target = some ⟨.recording, .timer⟩ → s.tim.ext = .starting
  mode : s.mech.cause ≠ .none → s.mech.mode.inRecording = true
  writer : s.cue.writer ≠ .idle → s.mech.mode = .recording ∧ s.mech.cause ≠ .none

/-- Two titles of one list, the first standing before the second (R75, R76): anchored titles stand first, in ascending order of
start and with disjoint spans, and no slot is held twice. -/
abbrev Title.before (t u : Title) : Prop :=
  (u.anchored = true → t.anchored = true ∧ t.start ≤ u.start ∧ (t.stop ≤ u.start ∨ u.stop ≤ t.start)) ∧
    (t.slot = none ∨ t.slot ≠ u.slot)

/-- The form that the laws of the catalogue require (R72, R74 to R77): one record for a tag; each live title belongs to a
cassette record and stands in its list; a list holds live titles of its cassette alone, none twice and at most 63, in the order
of R75; no slot is named by two dead-mark entries of a cassette, or by one and by a live title of it. -/
structure CatalogueOk (s : State) : Prop where
  tags : (s.cat.cassettes.map (·.tag)).Nodup
  owned : ∀ i x, titleAt s i = some x → ∃ c ∈ s.cat.cassettes, c.tag = x.tag ∧ i ∈ c.titles
  lists : ∀ c ∈ s.cat.cassettes, c.titles.Nodup ∧ c.titles.length ≤ 63 ∧
    ∀ i ∈ c.titles, ∃ x, titleAt s i = some x ∧ x.tag = c.tag
  order : ∀ c ∈ s.cat.cassettes, (titlesOf s c.tag).Pairwise fun x y => x.2.before y.2
  dead : ∀ c ∈ s.cat.cassettes, (c.dead.map (·.slot)).Nodup ∧
    ∀ e ∈ c.dead, ∀ x ∈ titlesOf s c.tag, x.2.slot ≠ some e.slot

end Sys2Proof.Machine
end

