-- ==== Sys2Proof/WellFormed.lean ====
section
/-! DEFINITION. Well-formed commands: the operands that the bytes of a frame can carry (11.8, 11.9), and the operands that an
event of the deck can have. A value in its field but out of the range of a rule is well-formed: the rule answers RANGE. -/

namespace Sys2Proof

/-- The value fits one byte. -/
def byteFits (n : Nat) : Bool := decide (n < 256)

/-- The value fits two bytes. -/
def wordFits (n : Nat) : Bool := decide (n < 65536)

/-- The text and the parameter bytes before it fit the parameter count of a frame, one byte. -/
def textFits (fixed : Nat) (t : Text) : Bool := decide (fixed + 1 + t.length < 256)

/-- A number fits a field of one byte in two's complement. -/
def signedFits8 (v : Int) : Bool := decide (-128 ≤ v) && decide (v < 128)

/-- A number fits a field of two bytes in two's complement. -/
def signedFits16 (v : Int) : Bool := decide (-32768 ≤ v) && decide (v < 32768)

/-- The fields of a PRESET-WRITE record fit their places (11.8). -/
def presetFits (p : PresetParam) : Bool :=
  decide (p.band < 4) && wordFits p.base && signedFits8 p.fine && decide (p.sound < 4) && textFits 5 p.name

/-- The key of TITLE-FIND fits the frame (11.9). -/
def keyFits : FindKey → Bool
  | .namePrefix t => textFits 4 t
  | .source code => byteFits code
  | .other kind => decide (2 ≤ kind) && byteFits kind

/-- A parameter is one of the names that its byte codes, or a byte that codes none of the first `count` codes (11.9). -/
def choiceFits {α : Type} (count : Nat) : Choice α → Bool
  | .of _ => true
  | .other code => decide (count ≤ code) && byteFits code

/-- The frame spells no request of the list (R196). -/
def spellsNone (code : Nat) (params : List Byte) : Bool := (Machine.parse code params).refusal.isSome

/-- The operands of a command are ones that it can have. -/
def wellFormed : Instr → Bool
  | .lineFunction line fn => byteFits line && byteFits fn
  | .setting item value => byteFits item && wordFits value
  | .unknownRequest code params => byteFits code && byteFits params.length && spellsNone code params
  | .seekTitle slot => byteFits slot
  | .cassetteList index => byteFits index
  | .cassetteRead tag => wordFits tag
  | .cassetteLabel tag text => wordFits tag && textFits 2 text
  | .cassetteClass tag cls => wordFits tag && byteFits cls
  | .cassetteAssign tag => wordFits tag
  | .cassetteRetire tag => wordFits tag
  | .titleRead tag index => wordFits tag && byteFits index
  | .titleReadSlot tag slot => wordFits tag && byteFits slot
  | .titleName tag index text => wordFits tag && byteFits index && textFits 3 text
  | .titleProtect tag index on => wordFits tag && byteFits index && choiceFits 2 on
  | .titleRetire tag index => wordFits tag && byteFits index
  | .titleFind tag index key => wordFits tag && byteFits index && keyFits key
  | .tune source => byteFits source
  | .presetRead n => byteFits n
  | .presetWrite n p => byteFits n && presetFits p
  | .presetStoreCurrent n => byteFits n
  | .presetSwap a b => byteFits a && byteFits b
  | .presetClear n => byteFits n
  | .tuneStep dir => byteFits dir
  | .fine delta => signedFits8 delta
  | .scan mode first => byteFits mode && byteFits first
  | .clockSet day hours minutes seconds => wordFits day && byteFits hours && byteFits minutes && byteFits seconds
  | .clockShift dir => byteFits dir
  | .clockTrim c => signedFits16 c
  | .editOpen slot => decide (slot < 255)
  | .editSet field value => byteFits field && wordFits value
  | .programmeRead slot => byteFits slot
  | .programmeEnable slot => byteFits slot
  | .programmeDisable slot => byteFits slot
  | .programmeClear slot => byteFits slot
  | .unlock code => wordFits code
  | .codeSet old new => wordFits old && wordFits new
  | .lockPreset n on => byteFits n && choiceFits 2 on
  | .lockTitle tag slot on => wordFits tag && byteFits slot && choiceFits 2 on
  | .feed on => choiceFits 2 on
  | .wind dir => choiceFits 2 dir
  | .search dir => choiceFits 2 dir
  | .speed v => choiceFits 2 v
  | .counterMode m => choiceFits 3 m
  | .memoryStop on => choiceFits 2 on
  | .power on => choiceFits 2 on
  | .wipe region => byteFits region
  | .drumPgPulse period => decide (0 < period)
  | .controlTrackPulse period width => decide (0 < period) && decide (width ≤ period)
  | .markDecoded bits => decide (bits.length = 17)
  | .aftSample _ d => byteFits d
  | .searchCaptureSample _ d => byteFits d
  | .null | .notices | .status | .ident | .softReset | .settingsRead | .shortFrame | .notReadyFrame
  | .play | .record | .pause | .stop | .halt | .eject | .counterZero
  | .seekEnd | .cassetteRegister | .aftStore | .scanStop | .clockRead | .editOpenNew
  | .editCommit | .editDiscard | .timerArm | .timerDisarm | .relock | .wipePrepare | .cassetteIn
  | .loadingComplete _ _ | .loadingTimeout | .threadingComplete | .threadingDrumTimeout | .threadingTimeout
  | .unthreadingComplete | .unthreadingTimeout | .ejectingComplete | .ejectingTimeout | .mechanismSwitchChange _
  | .dewActive | .dewInactive | .dewWaitExpiry | .takeUpTachEdge | .supplyTachEdge | .reelWatchExpiry | .stillLimit
  | .recPauseLimit | .readyIdleLimit | .drumLock | .drumUnlockTimeout | .capstanLock | .capstanSpeedSwitch
  | .noCtlTimeout | .capstanPulse | .countingStep | .ffWindStep | .rewWindStep | .supplyMeasurementComplete
  | .takeUpMeasurementComplete | .botAnchor _ | .markPassed | .markComplete | .powerWarning | .powerWarningClear
  | .powerUp _ | .mainPowerLoss _ | .holdLoss | .secondEvent | .transportFreeEvaluation | .searchSweepStep _
  | .extRecFallingEdge | .extRecRisingEdge | .timerKeyEdge | .ejectKeyEdge | .stopKeyEdge | .storeWriteComplete => true

end Sys2Proof
end

