-- ==== Sys2Proof/Certificates/Slice0/Obligations.lean ====
section
/-! DEFINITION. The statements of the model, one Prop each, in the order of OBLIGATIONS.json. -/

open Sys2Proof Sys2Proof.Machine

/-! ### The queue and the machine as a whole -/

/-- The command at the front of the queue leaves it and has its effect on the machine with the rest of the queue. It says how
the model runs commands. -/
def Obligations.StepTakesFront : Prop :=
  ∀ (c : Instr) (rest : List Instr) (s : State),
    step { s with pending := c :: rest } = exec c { s with pending := rest }

/-- No step of the machine stops it: every disturbance the manual describes is a state. With no command waiting, a step is one
crystal count of the hold domain (R130): a count inside the second adds 1 to the count and changes nothing else; the count that
reaches the length of the second is the second event; a hold domain that has lost its contents counts nothing. That the empty
queue stands for a crystal count, and that a count forgets the memory-stop crossing of the step before it (the model's own
flag), are the model's choices (log entries 7 and 73). -/
def Obligations.IdleStepCounts : Prop :=
  (∀ s : State, ∃ t, step s = .next t) ∧
  (∀ s : State, s.pending = [] →
     (s.hold.intact = false → step s = .next (s.noteCrossing false)) ∧
     (s.hold.intact = true →
       (((s.hold.count + 1 : Nat) : Int) < s.hold.secondLength →
         step s = .next { s.noteCrossing false with hold := { s.hold with count := s.hold.count + 1 } }) ∧
       (s.hold.secondLength ≤ ((s.hold.count + 1 : Nat) : Int) → step s = exec .secondEvent (s.noteCrossing false))) ∧
     s.hold.secondLength = if s.hold.periodSecond = 599 then 32768 + s.hold.secondTrim else 32768)

/-- The machine after its first power-up: a new controller holds every record at its factory value, undamaged (R188); the
power-up with no cassette leaves EMPTY with outcome NONE and the record-tab state ABSENT; the hold domain is initialised
(R140), the deck OFF; the lock is NONE with five attempts; the buffer holds OK with length 0; POWER-UP and HOLD-LOST stand
in the notice set; the feed is off; the owner is VIEW. That the inputs are inactive, and that the crystal count and the trim
of the present second are 0, are the model's choices (log entries 2 and 30). The invariants hold of the machine after reset. -/
def Obligations.ResetIsFirstPowerUp : Prop :=
  (State.reset.settings = ⟨.s625, none, .none, .none, 101, .tape, false, .std, 1, 12, .b, 0, 1⟩ ∧
   State.reset.store.stored.settings = State.reset.settings ∧
   State.reset.tun.presets = List.replicate 99 ⟨false, .low, 0, 0, true, 0, false, false, []⟩ ∧
   State.reset.tim.programmes.length = 16 ∧ (∀ p ∈ State.reset.tim.programmes, p.state = .empty) ∧
   State.reset.cat.cassettes = [] ∧ State.reset.cat.pool = List.replicate 256 none ∧
   State.reset.store.damaged = [] ∧ State.reset.store.queue = [] ∧ State.reset.store.flight = none ∧
   State.reset.mech.mode = .empty ∧ State.reset.mech.outcome = .none ∧ State.reset.mech.tab = false ∧
   State.reset.hold = ⟨0, 0, 0, 0, 0, 0, false, false, .none, true, .off⟩ ∧
   State.reset.lock.state = .none ∧ State.reset.lock.attempts = 5 ∧
   State.reset.link.buffer = .ready ⟨.ok, []⟩ ∧ State.reset.link.feed = false ∧
   (State.reset.link.notices.get .power).map (·.reason) = some powerUpReason ∧
   (State.reset.link.notices.get .clock).map (·.reason) = some holdLostReason ∧
   State.reset.tun.owner = .view ∧ State.reset.pending = []) ∧
  (LockOk State.reset ∧ PlaceOk State.reset ∧ QueueOk State.reset ∧ RunOk State.reset ∧ Fresh State.reset)

/-- Every step keeps the lock in a legal state (R181). -/
def Obligations.LockOkKept : Prop := ∀ s t : State, LockOk s → step s = .next t → LockOk t

/-- Every step keeps the position within its limits (R35): an anchored position lies within 0 to 1,048,575. -/
def Obligations.PositionLimitsKept : Prop := ∀ s t : State, PlaceOk s → step s = .next t → PlaceOk t

/-- Every step keeps the programme being run consistent (R163, R28): a slot in PREROLL or RECORDING is the run record's, in its
phase, and the run record's slot is in one of them; the record cause is PROGRAMME n only while the run record of n is
RECORDING, and EXTERNAL only while the external record is; the engine's target REC is that of an external recording in STARTING
(R176); a recording is in progress in REC and REC-PAUSE alone; and a mark is written only in REC, while one is (R54, R55). -/
def Obligations.RunKept : Prop := ∀ s t : State, RunOk s → step s = .next t → RunOk t

/-- Every step keeps the write queue without repeats (R189). -/
def Obligations.WriteQueueKept : Prop := ∀ s t : State, QueueOk s → step s = .next t → QueueOk t

/-- Every step of a machine with main power leaves the current title (R98), the counter value reported (R43) and the write in
flight (R189) up to date; that the transport's becoming free waits for its evaluation only while the transport is free, and
that no report is left unread, are the model's own (log entries 5 and 6). The current title (R98): none with the identity NONE
or with P absent or unanchored; else the anchored title that is being recorded; else the anchored title of the identified
cassette whose span holds P, and none where there is none; a relative title never. The changes reported to the link interface
(R199): with the feed on before and after a command, a change of the counter value, of the mode, of the source or the AFT
state, or of the current title leaves bit 0, 1, 2 or 3 set in the FEED notice; with the feed off before and after, no command
raises FEED or changes one that stands. -/
def Obligations.FreshKept : Prop :=
  (∀ s t : State, (s.mainPower = true → Fresh s) → step s = .next t → t.mainPower = true → Fresh t) ∧
  (∀ s : State,
     (∀ p, anchoredP s = some p ↔ ∃ pl, s.pos.place = some pl ∧ pl.quality ≠ .unanchored ∧ pl.p = p) ∧
     (s.cue.identity = .none ∨ anchoredP s = none → currentOf s = none) ∧
     (∀ tag, s.cue.identity.tag = some tag → ∀ p, anchoredP s = some p → ∀ own, own = s.cat.recording.bind (·.title) →
       ∀ spans : Title → Prop, spans = (fun x => x.anchored = true ∧ x.start ≤ p ∧ p < x.start + x.length) →
       (∀ i x, own = some i → titleAt s i = some x → x.anchored = true → currentOf s = some i) ∧
       ((∀ i x, own = some i → titleAt s i = some x → x.anchored = false) →
         (∀ y ∈ titlesOf s tag, spans y.2 → (∀ z ∈ titlesOf s tag, spans z.2 → z = y) → currentOf s = some y.1) ∧
         ((∀ y ∈ titlesOf s tag, ¬spans y.2) → currentOf s = none)))) ∧
  (∀ (i : Instr) (s t : State), exec i s = .next t →
     ∀ told : Nat → Prop, told = (fun n => ∃ v, t.link.notices.get .feed = some v ∧ v.reason.testBit n = true) →
     (s.link.feed = true → t.link.feed = true →
       (t.pos.shown ≠ s.pos.shown → told 0) ∧ (t.mech.mode ≠ s.mech.mode → told 1) ∧
       (t.tun.source ≠ s.tun.source ∨ t.tun.aft ≠ s.tun.aft → told 2) ∧ (t.cat.current ≠ s.cat.current → told 3)) ∧
     (s.link.feed = false → t.link.feed = false → ∀ v, t.link.notices.get .feed = some v → s.link.notices.get .feed = some v))

/-- Only UNLOCK and CODE-SET open the lock (R182, R184): after any other command the lock is open only if it was. -/
def Obligations.OnlyACodeOpensTheLock : Prop :=
  ∀ (i : Instr) (s t : State), (∀ code, i ≠ .unlock code) → (∀ old new, i ≠ .codeSet old new) →
    exec i s = .next t → t.lock.state = .unlocked → s.lock.state = .unlocked

/-- An anchored position stays anchored until the load ends (R36): a command that leaves a position where an anchored one stood
leaves it anchored, unless LOADING, in which no load is in progress, has completed. A power-up begins with no load. -/
def Obligations.AnchoredStaysAnchored : Prop :=
  ∀ (i : Instr) (s t : State), (∀ inputs, i ≠ .powerUp inputs) → s.mech.mode ≠ .loading → exec i s = .next t →
    (anchoredP s).isSome = true → t.pos.place.isSome = true → (anchoredP t).isSome = true

/-! ### The control link (chapter 11) -/

/-- A frame carries its request: the bytes written for a well-formed request with at most thirty parameter bytes are read back
as that request, whatever bytes follow them in the frame (R195, 11.8, 11.9). -/
def Obligations.FrameCarriesRequest : Prop :=
  ∀ (i : Instr) (code : Nat) (ps extra : List Byte), wellFormed i = true → Instr.spell i = some (code, ps) → ps.length ≤ 30 →
    Instr.frame i = some (b8 code :: b8 ps.length :: ps) ∧
    parseFrame (b8 code :: b8 ps.length :: (ps ++ extra)) = some (.request i)

/-- A frame that finds the answer buffer pending clocks out NOT-READY and changes nothing else, whatever request it carries
(R195), a request of an unknown code or count among them. A frame too short for its parameters leaves a ready buffer ready
with SHORT, its earlier answer clocked out; NOT-READY-FRAME clocks out NOT-READY whatever the buffer holds (log entry 11);
and nothing else changes, the prepared flag included (R195, R192). What a frame clocks out is the result code, the length,
the data, and 0x00 from there on. A frame whose code is not in the list is answered UNKNOWN, one whose count is above 30 or
is not its layout's RANGE, and nothing else changes (R196), but that each clears the prepared flag, as a request other than
WIPE-PREPARE (log entry 13). The codes of the results are those of the table of R196. -/
def Obligations.FramesThatCarryNothing : Prop :=
  (∀ (i : Instr) (s : State),
     isRequest i ∨ i = .notReadyFrame ∨ (∃ code ps, i = .unknownRequest code ps ∧ spellsNone code ps = true) →
     s.mainPower = true → s.link.buffer = .pending →
     exec i s = .next { s with link := { s.link with sent := some ⟨.notReady, []⟩ } }) ∧
  (∀ s : State,
     (s.mainPower = true →
       (∀ a, s.link.buffer = .ready a →
         exec .shortFrame s = .next { s with link := { s.link with sent := some a, buffer := .ready ⟨.short, []⟩ } }) ∧
       (s.link.buffer = .pending →
         exec .shortFrame s = .next { s with link := { s.link with sent := some ⟨.notReady, []⟩ } }) ∧
       exec .notReadyFrame s = .next { s with link := { s.link with sent := some ⟨.notReady, []⟩ } }) ∧
     (∀ a, s.link.sent = some a → ∀ n,
       (clockedOut s n).length = n ∧
       (0 < n → (clockedOut s n)[0]? = some (b8 (answerCode a.result))) ∧
       (1 < n → (clockedOut s n)[1]? = some (b8 a.data.length)) ∧
       (∀ k, k + 2 < n → (clockedOut s n)[k + 2]? = some (a.data.getD k 0)))) ∧
  (∀ (code : Nat) (ps : List Byte) (s : State), Taken s → Quiet s →
     (parse code ps = .unknown → Refuses (.unknownRequest code ps) s .unknown) ∧
     (parse code ps = .range → Refuses (.unknownRequest code ps) s .range) ∧
     (parseCode code ps ≠ .unknown → 30 < ps.length → parse code ps = .range)) ∧
  [Result.ok, .accepted, .notReady, .short, .unknown, .range, .state, .busy, .absent, .full, .locked, .frozen, .barred,
    .referenced, .sequence].map answerCode = List.range 15

/-- NULL, STATUS, IDENT, SETTINGS-READ and CLOCK-READ answer OK and change nothing (R195, R200, R201, R134), with the bytes of
11.8. IDENT gives the family and member codes and the capacities, its revision being left open (log entry 1); SETTINGS-READ
gives the fields of SETTINGS, one byte telling whether a code is set. Bits that the layouts of STATUS and CLOCK-READ assign
nothing to are open (log entry 3); 0xFF for no pending target and no fault reason is the model's choice (log entry 41). The
current title is given by its slot, or by its index in the list of its cassette; the next programme is the waiting one with
the earliest start, the lowest slot among equals (R143). The counter value and the remaining figure of the snapshot: time by
the current speed, floored, by the counter mode (R40), absent with no load (R32); the remaining figure from the measurement
pair, else from the total of the cassette while P is anchored (R48). The codes that the bytes of STATUS, CLOCK-READ and
SETTINGS-READ carry (11.8, R9, R188). -/
def Obligations.ReadsOfTheLink : Prop :=
  (∀ s : State, Taken s → Quiet s →
     Replies .null s .ok [] s [] [] ∧
     Replies .ident s .ok [0x4B, 0x60, Config.revision, 99, 16, 48, 1, 0, 63, 8] s [] [] ∧
     Replies .settingsRead s .ok
       ([b8 (standardCode s.settings.standard), if s.settings.lockCode.isSome then 1 else 0,
         b8 (lineFnCode s.settings.line1), b8 (lineFnCode s.settings.line2), b8 s.settings.extSource,
         b8 (counterModeCode s.settings.counterMode), if s.settings.autoRewind then 1 else 0,
         b8 (speedCode s.settings.recordSpeed), b8 s.settings.lastViewed, b8 s.settings.aftWindow,
         b8 (classCode s.settings.defaultClass), b8 s.settings.defaultSound] ++ be16 s.settings.nextTag) s [] [] ∧
     Replies .clockRead s .ok
       (be16 s.hold.day ++ [b8 (s.hold.day % 7), b8 (s.hold.seconds / 3600), b8 (s.hold.seconds / 60 % 60), b8 (s.hold.seconds % 60),
         b8 ((if s.hold.valid then 1 else 0) + if s.hold.dst then 2 else 0) ||| (s.openBits 6 &&& 0xFC)] ++
         be16 (s.hold.trim % 65536).toNat ++ [b8 (stagedCode s.hold.staged)] ++
         match s.hold.staged with
         | .none => [0, 0, 0, 0]
         | .set day second => be16 day ++ [b8 (second / 3600), b8 (second / 60 % 60)]
         | .shift forward => [if forward then 0 else 1, 0, 0, 0]) s [] [] ∧
     Replies .status s .ok (statusData s) s [] [] ∧ (statusData s).length = 32 ∧
     (statusData s).take 18 =
       [b8 (powerCode s.hold.power), b8 (modeCode s.mech.mode), s.mech.target.elim 0xFF fun g => b8 (modeCode g.mode),
         b8 (outcomeCode s.mech.outcome),
         b8 ((if s.mech.noCtl then 1 else 0) + (if s.mech.capstanLock then 2 else 0) + (if s.mech.drumLock then 4 else 0) +
           (if s.mech.dewLock then 8 else 0) + (if s.mech.stuck then 16 else 0) + (if s.mech.tab then 32 else 0) +
           (if s.pos.memoryStop then 64 else 0) + if s.pos.zero.isSome then 128 else 0),
         s.mech.faultReason.elim 0xFF fun r => b8 (faultCode r),
         b8 (counterModeCode s.settings.counterMode + 4 * qualityCode s.pos.place + 16 * speedCode (currentSpeed s) +
           32 * speedCode s.mech.detected + 64 * speedCode s.mech.recSpeed) ||| (s.openBits 6 &&& 0x80)] ++
       (match counterValue s with
         | .seconds v => be24 (v % 16777216).toNat
         | .absent => [0x80, 0, 0]
         | .unknown => [0x7F, 0xFF, 0xFF]) ++
       (match s.pos.place with
         | some pl => be24 (pl.p % 16777216).toNat
         | none => [0x80, 0, 0]) ++
       (match remaining s with
         | some r => be24 r.toNat
         | none => [0xFF, 0xFF, 0xFF]) ++
       (match s.cue.identity with
         | .none => [s.openBits 16 &&& 0x3F, s.openBits 17]
         | .asserted tag => [b8 (64 + tag / 256 % 4) ||| (s.openBits 16 &&& 0x3C), b8 tag]
         | .read tag => [b8 (128 + tag / 256 % 4) ||| (s.openBits 16 &&& 0x3C), b8 tag]) ∧
     (s.cat.current = none → (statusData s)[18]? = some (s.openBits 18 &&& 0x7F)) ∧
     (∀ i, s.cat.current = some i → ∀ x, titleAt s i = some x →
       (∀ slot, x.slot = some slot → slot ≤ 63 → (statusData s)[18]? = some (b8 (128 + slot))) ∧
       (x.slot = none → ∀ c, cassetteOf s x.tag = some c → c.titles.Nodup → ∀ n, n < 63 → c.titles[n]? = some i →
         (statusData s)[18]? = some (b8 (192 + n)))) ∧
     (statusData s).drop 19 =
       [b8 (aftCode s.tun.aft + 16 * ownerCode s.tun.owner) ||| (s.openBits 19 &&& 0xC8), b8 s.tun.source] ++ be16 s.hold.day ++
       [b8 (s.hold.seconds / 3600), b8 (s.hold.seconds / 60 % 60), b8 (s.hold.seconds % 60),
         b8 ((if s.hold.valid then 1 else 0) + (if s.hold.dst then 2 else 0) + 4 * stagedCode s.hold.staged) |||
           (s.openBits 26 &&& 0xF0),
         s.tim.run.elim 0xFF fun run => b8 run.slot, (nextProgramme s).elim 0xFF b8,
         b8 (lockCode s.lock.state), b8 (causeCode s.mech.cause),
         b8 ((s.store.wipe.elim 0 fun w => regionCode w.region + 1) + (if s.tun.scan.isSome then 8 else 0) +
           16 * extCode s.tim.ext) ||| (s.openBits 31 &&& 0xC0)] ∧
     (nextProgramme s = none → ∀ n p, progAt s n = some p → p.waits = true → p.next = none) ∧
     (∀ n, nextProgramme s = some n → ∃ p, progAt s n = some p ∧ p.waits = true ∧ ∃ o, p.next = some o ∧
       ∀ m q, progAt s m = some q → q.waits = true → ∀ r, q.next = some r → o.start < r.start ∨ (o.start = r.start ∧ n ≤ m))) ∧
  (∀ s : State,
     (s.pos.place = none → counterValue s = .absent ∧ remaining s = none) ∧
     currentSpeed s = (if s.mech.mode ∈ [.play, .still, .searchFwd, .searchRev] then s.mech.detected else s.settings.recordSpeed) ∧
     (∀ pl, s.pos.place = some pl → ∀ second : Int,
       second = (if currentSpeed s = .std then 2 else 1) * (if s.settings.standard = .s625 then 25 else 30) →
       (s.settings.counterMode = .tape → counterValue s = .seconds (pl.p / second)) ∧
       (s.settings.counterMode = .zero →
         counterValue s = (s.pos.zero.elim .absent fun z => .seconds ((pl.p - z) / second))) ∧
       (s.settings.counterMode = .remain →
         counterValue s = ((remaining s).elim .unknown fun r => .seconds (r / second))) ∧
       (∀ k, s.pos.pair = some k → remaining s = some (max 0 (min 1048575 (k.remaining - (pl.p - k.pos))))) ∧
       (∀ c, s.cue.identity.tag.bind (cassetteOf s) = some c → s.pos.pair = none → pl.quality ≠ .unanchored →
         remaining s = (c.total.map fun total => max 0 (min 1048575 ((total : Int) - pl.p)))) ∧
       (s.pos.pair = none → pl.quality = .unanchored ∨ s.cue.identity.tag.bind (cassetteOf s) = none → remaining s = none))) ∧
  ([DeckPower.off, .on, .timerStandby].map powerCode = [0, 1, 2] ∧
   [Mode.empty, .loading, .halted, .threading, .ready, .play, .still, .searchFwd, .searchRev, .recording, .recPause, .ff, .rew,
     .unthreading, .ejecting, .fault].map modeCode = List.range 16 ∧
   [MotionOutcome.none, .done, .superseded, .loadFailed, .fault, .dew, .tapeEnd, .autoStop, .memoryStop, .barred, .protectLimit,
     .powerFail, .found, .approximate, .aborted].map outcomeCode = List.range 15 ∧
   [FaultReason.timeout, .drum, .reel, .mechanism, .power].map faultCode = [0, 1, 2, 3, 4] ∧
   [CounterMode.tape, .zero, .remain].map counterModeCode = [0, 1, 2] ∧ [Speed.std, .long].map speedCode = [0, 1] ∧
   qualityCode none = 0 ∧ (∀ p, [Quality.unanchored, .exact, .estimated].map (fun q => qualityCode (some ⟨p, q⟩)) = [1, 2, 3]) ∧
   [TunerOwner.view, .scan, .record, .timer].map ownerCode = [0, 1, 2, 3] ∧
   [AftState.off, .settling, .locked, .noSignal, .limit].map aftCode = [0, 1, 2, 3, 4] ∧
   (∀ day second forward, [Staged.none, .set day second, .shift forward].map stagedCode = [0, 1, 2]) ∧
   [LockState.none, .locked, .unlocked, .frozen].map lockCode = [0, 1, 2, 3] ∧
   (∀ n, [Cause.none, .manual, .external, .programme n].map causeCode = [0, 1, 2, 16 + n]) ∧
   [Region.presets, .programmes, .catalogue, .all].map regionCode = [0, 1, 2, 3] ∧
   [External.none, .starting, .recording].map extCode = [0, 1, 2] ∧ [Standard.s625, .s525].map standardCode = [0, 1] ∧
   [LineFn.none, .extRec, .timerKey, .ejectKey, .stopKey].map lineFnCode = [0, 1, 2, 3, 4] ∧
   [Thickness.a, .b, .c].map classCode = [0, 1, 2])

/-- NOTICES answers OK with the two bytes of the kind mask, bit n for the n-th kind of 11.8 and no other, and three bytes for
each kind present in that order: the reason, the detail, and the repeat flag in bit 0 of a byte whose other bits are open
(log entry 3). It empties the set; on a machine whose derived items are up to date nothing is raised into the emptied set
(R198). FEED sets the feed flag and is answered OK in every state (R199), RANGE with a value that is neither on nor off (by the
model, log entry 40). Raising a notice (R197): a new kind is added with
the repeat flag clear; FEED gathers its change bits; any other kind is replaced with the repeat flag set; no other kind
changes, and the attention line is asserted. The reason codes of the notices (11.8), a motion outcome and a fault reason
being their own codes, and the codes of a programme result in a detail (R142). -/
def Obligations.NoticesRaisedAndCollected : Prop :=
  (∀ s : State, Taken s → Quiet s →
     ∃ t, exec .notices s = .next t ∧ t.link.buffer = .ready ⟨.ok, noticesData s⟩ ∧
       Leaves { s with link := { s.link with notices := .empty } } (replied .ok (noticesData s) s) t [] [] ∧
       (Fresh s → t.link.notices = .empty ∧ attention t = false) ∧
       ∀ kinds, kinds = [.power, .motion, .cassette, .timer, .catalogue, .tuner, .clock, .feed, .fault, .store] →
       ∀ mask, mask = ((noticesData s).getD 0 0).toNat * 256 + ((noticesData s).getD 1 0).toNat → mask < 1024 ∧
         (∀ n k, kinds[n]? = some k → mask.testBit n = (s.link.notices.get k).isSome) ∧
         (noticesData s).length = 2 + 3 * (kinds.filter fun k => (s.link.notices.get k).isSome).length ∧
         (∀ n k v, kinds[n]? = some k → s.link.notices.get k = some v →
           ∀ j, j = ((kinds.take n).filter fun l => (s.link.notices.get l).isSome).length →
             ((noticesData s).drop (2 + 3 * j)).take 3 =
               [b8 v.reason, b8 v.detail, (if v.repeated then 1 else 0) ||| (s.openBits (3 * j + 4) &&& 0xFE)])) ∧
  (∀ (on : Bool) (s : State), Taken s → Quiet s →
     Replies (.feed (.of on)) s .ok [] { s with link := { s.link with feed := on } } [] [] ∧
     ∀ n, Refuses (.feed (.other n)) s .range) ∧
  (∀ (k : NoticeKind) (reason detail : Nat) (s : State),
     (s.link.notices.get k = none → (raise k reason detail s).link.notices.get k = some ⟨reason, detail, false⟩) ∧
     (∀ o, s.link.notices.get k = some o → k ≠ .feed →
       (raise k reason detail s).link.notices.get k = some ⟨reason, detail, true⟩) ∧
     (∀ o, s.link.notices.get k = some o → k = .feed →
       (raise k reason detail s).link.notices.get k = some ⟨o.reason ||| reason, o.detail, o.repeated⟩) ∧
     (∀ l, l ≠ k → (raise k reason detail s).link.notices.get l = s.link.notices.get l) ∧
     attention (raise k reason detail s) = true) ∧
  ([powerUpReason, warningReason, armedReason, disarmedReason, keyRefusedReason, autoOffReason, softResetReason] = List.range 7 ∧
   [identifiedReason, foreignReason, mixedReason] = List.range 3 ∧
   [missedReason, heldReason, prerollReason, startedReason, endedReason, extIgnoredReason, extStartedReason, extEndedReason] =
     List.range 8 ∧
   [closedReason, noCassetteReason, noRecordReason, rebasedReason] = List.range 4 ∧
   [aftLimitReason, storedReason, scanDoneReason, scanFullReason, scanFoundReason, scanStoppedReason, scanPreemptedReason] =
     List.range 7 ∧
   [clockSetReason, setDroppedReason, clockShiftReason, rangeEndReason, invalidReason, holdLostReason] = List.range 6 ∧
   [dewReason, dewClearReason] = [4, 5] ∧ [lostReason, wipedReason] = [0, 1] ∧
   [ProgResult.none, .complete, .missed, .noCassette, .noTab, .wrongCassette, .barred, .tapeEnd, .protectLimit, .dew, .fault,
     .powerFail, .aborted].map resultCode = List.range 13)

/-- SETTING writes one field of SETTINGS and marks SETTINGS for writing (R201): each item with a value in its range, and the
refusals of each, a code of no named value among them (RANGE); a value of AFT-WINDOW past 255 is clamped like one within, by
the model (log entry 40). LINE-FUNCTION sets the function of a line and marks SETTINGS; RANGE for another line or function,
STATE when the other line holds the same function (R203). Taking EXT-REC from its line ends an external recording as a
rising edge would: one STARTING is ABORTED with the tape sent to READY, one RECORDING is COMPLETE and its title closed
(R177); the tuner is given back (a saved line input or source 0 tuned as the model does, log entries 25 and 59).
COUNTER-MODE, COUNTER-ZERO and MEMORY-STOP (R41, R42): each sets its item, a value that codes none being RANGE (by the model,
log entry 40); COUNTER-ZERO with no load is refused STATE. SPEED
writes the record speed setting, and changes neither the target nor the outcome nor a recording in progress (R14). TUNE
makes a source current (R104): a used preset is copied into the working tuning with offset 0, and AFT is SETTLING with the
enable on and OFF without; a line input leaves the tuning as it is with offset 0 (R104, followed against R111 by log entry
25), and AFT is OFF; the last-viewed source is the new one. The refusals of TUNE in order (R104). TUNE-STEP (R105) counts on
by one in its direction, round the ends, from the current source when that is a preset, else from the last-viewed one, else
from 99 going up and 1 going down; it takes the first preset that is USED, not flagged skip, and not locked unless the lock
is open, passing over the others, the preset it started from coming last, and answers with its number; where none may be
taken it is ABSENT; its refusals are in the order of R100. -/
def Obligations.SettingsAreWritten : Prop :=
  (∀ (v : Nat) (s : State), Taken s → Quiet s →
     (v ≤ 1 → s.mech.mode = .empty → Replies (.setting 0 v) s .ok []
       { s with settings := { s.settings with standard := if v = 0 then .s625 else .s525 } } [] [.settings]) ∧
     (v ≤ 1 → s.mech.mode ≠ .empty → Refuses (.setting 0 v) s .state) ∧
     (v ≤ 1 → Replies (.setting 1 v) s .ok [] { s with settings := { s.settings with autoRewind := v == 1 } } [] [.settings]) ∧
     (1 < v → Refuses (.setting 0 v) s .range ∧ Refuses (.setting 1 v) s .range) ∧
     (isSource v = true → presetEmpty s v = false → wiping s .presets = false →
       Replies (.setting 2 v) s .ok [] { s with settings := { s.settings with extSource := v } } [] [.settings]) ∧
     (isSource v = true → presetEmpty s v = true → Refuses (.setting 2 v) s .absent) ∧
     (isSource v = true → presetEmpty s v = false → wiping s .presets = true → Refuses (.setting 2 v) s .busy) ∧
     (isSource v = false → Refuses (.setting 2 v) s .range) ∧
     (Replies (.setting 3 v) s .ok []
       { s with settings := { s.settings with aftWindow := if v < 4 then 4 else if 40 < v then 40 else v } } [] [.settings]) ∧
     (v ≤ 2 → Replies (.setting 4 v) s .ok []
       { s with settings := { s.settings with defaultClass := if v = 0 then .a else if v = 1 then .b else .c } } []
       [.settings]) ∧
     (2 < v → Refuses (.setting 4 v) s .range) ∧
     (v ≤ 3 → s.tun.owner ≠ .scan →
       Replies (.setting 5 v) s .ok [] { s with settings := { s.settings with defaultSound := v } } [] [.settings]) ∧
     (v ≤ 3 → s.tun.owner = .scan →
       Replies (.setting 5 v) s .ok []
         { s with
           settings := { s.settings with defaultSound := v }
           tun := { s.tun with working := { s.tun.working with sound := v } } } [] [.settings]) ∧
     (3 < v → Refuses (.setting 5 v) s .range) ∧
     (∀ item, 5 < item → Refuses (.setting item v) s .range)) ∧
  (∀ (line fn : Nat) (s : State), Taken s → Quiet s →
     ((line ≠ 1 ∧ line ≠ 2) ∨ 4 < fn → Refuses (.lineFunction line fn) s .range) ∧
     (line = 1 ∨ line = 2 → fn ≤ 4 → ∀ own, own = (if line = 1 then s.settings.line1 else s.settings.line2) →
       ∀ other, other = (if line = 1 then s.settings.line2 else s.settings.line1) →
       (0 < fn → lineFnCode other = fn → Refuses (.lineFunction line fn) s .state) ∧
       (fn = 0 ∨ lineFnCode other ≠ fn → ∀ k, k = (if line = 1 then { s.settings with line1 := LineFn.ofCode fn }
           else { s.settings with line2 := LineFn.ofCode fn }) →
         (s.tim.ext = .none ∨ own ≠ .extRec ∨ fn = 1 →
           Replies (.lineFunction line fn) s .ok [] { s with settings := k } [] [.settings]) ∧
         (s.tim.ext = .starting → own = .extRec → fn ≠ 1 → s.tim.run = none → s.hold.power = .on → s.mech.dewLock = false →
           s.mech.mode = .threading → s.pins.cam ≠ .threadPos → s.mech.target = some ⟨.recording, .timer⟩ →
           s.cue.seek = none → s.tun.owner = .timer →
           Replies (.lineFunction line fn) s .ok []
             { aiming (some ⟨.ready, .timer⟩) s with
               settings := k, tun := givenBack s, tim := { s.tim with ext := .none } }
             [(.timer, extEndedReason, (s.openBits 0).toNat / 16 * 16 + resultCode .aborted)] [.settings]) ∧
         (s.tim.ext = .recording → own = .extRec → fn ≠ 1 → s.mech.mode = .recording → s.mech.cause = .external →
           s.tim.run = none → (∀ p ∈ s.tim.programmes, p.waits = false) → s.cue.writer = .idle → s.cue.seek = none →
           s.mech.target = none → s.tun.owner = .timer → s.hold.power = .on → ∀ r, s.cat.recording = some r →
           ∀ i, r.title = some i → ∀ x, titleAt s i = some x →
           ∃ t, exec (.lineFunction line fn) s = .next t ∧ Fresh t ∧ t.link.buffer = .ready ⟨.ok, []⟩ ∧ t.settings = k ∧
             t.tim.ext = .none ∧ t.mech.mode = .ready ∧ t.mech.cause = .none ∧ titleAt t i = some { x with isOpen := false } ∧
             t.cat.recording = none ∧ t.tun = givenBack s ∧ Awaits .settings t))) ∧
     (∀ f, LineFn.ofCode (lineFnCode f) = f)) ∧
  (∀ s : State, Taken s → Quiet s →
     (∀ m, Replies (.counterMode (.of m)) s .ok [] { s with settings := { s.settings with counterMode := m } } [] [.settings]) ∧
     (∀ on, Replies (.memoryStop (.of on)) s .ok [] { s with pos := { s.pos with memoryStop := on } } [] []) ∧
     (∀ pl, s.pos.place = some pl → Replies .counterZero s .ok [] { s with pos := { s.pos with zero := some pl.p } } [] []) ∧
     (s.pos.place = none → Refuses .counterZero s .state) ∧
     (∀ n, Refuses (.counterMode (.other n)) s .range ∧ Refuses (.memoryStop (.other n)) s .range)) ∧
  (∀ (v : Speed) (s : State), Taken s → Obeys s → s.mech.mode ≠ .empty → s.mech.mode ≠ .ejecting → s.mech.mode ≠ .fault →
     Replies (.speed (.of v)) s .ok []
       { s with
         settings := { s.settings with recordSpeed := v }
         mech := if s.mech.mode = .ready then { s.mech with readyTimer := some 480000 } else s.mech } [] [.settings]) ∧
  (∀ (n : Nat) (s : State), Taken s → Quiet s → wiping s .presets = false → s.hold.power = .on → s.tun.owner = .view →
     (∀ p, presetAt s n = some p → p.used = true → n ≤ 99 → p.locked = false ∨ s.lock.state = .unlocked →
       Replies (.tune n) s .ok []
         { s with
           tun := { s.tun with
             source := n, working := ⟨p.band, p.base, p.fine, p.aft, p.sound, 0⟩, aftCount := 0
             aft := if p.aft then .settling else .off }
           settings := { s.settings with lastViewed := n } } [] [.settings]) ∧
     (s.tun.presets.length ≤ 100 → n = 101 ∨ n = 102 →
       Replies (.tune n) s .ok []
         { s with
           tun := { s.tun with
             source := n, working := { s.tun.working with offset := 0 }, aftCount := 0, aft := .off }
           settings := { s.settings with lastViewed := n } } [] [.settings])) ∧
  (∀ (n : Nat) (s : State), Taken s → Quiet s →
     (wiping s .presets = true → Refuses (.tune n) s .busy) ∧
     (wiping s .presets = false → isSource n = false → Refuses (.tune n) s .range) ∧
     (wiping s .presets = false → isSource n = true → s.hold.power ≠ .on → Refuses (.tune n) s .state) ∧
     (wiping s .presets = false → isSource n = true → s.hold.power = .on → s.tun.owner ≠ .view →
       Refuses (.tune n) s .busy) ∧
     (wiping s .presets = false → isSource n = true → s.hold.power = .on → s.tun.owner = .view →
       ∀ p, presetAt s n = some p → (p.used = false → Refuses (.tune n) s .absent) ∧
         (p.used = true → p.locked = true → s.lock.state ≠ .unlocked → Refuses (.tune n) s .locked))) ∧
  (∀ (code : Nat) (s : State), Taken s → Quiet s →
     (wiping s .presets = true → Refuses (.tuneStep code) s .busy) ∧
     (wiping s .presets = false → 1 < code → Refuses (.tuneStep code) s .range) ∧
     (wiping s .presets = false → code ≤ 1 → s.hold.power ≠ .on → Refuses (.tuneStep code) s .state) ∧
     (wiping s .presets = false → code ≤ 1 → s.hold.power = .on → s.tun.owner ≠ .view → Refuses (.tuneStep code) s .busy) ∧
     (wiping s .presets = false → code ≤ 1 → s.hold.power = .on → s.tun.owner = .view →
       ∀ start, start = (if 1 ≤ s.tun.source ∧ s.tun.source ≤ 99 then s.tun.source
         else if 1 ≤ s.settings.lastViewed ∧ s.settings.lastViewed ≤ 99 then s.settings.lastViewed
         else if code = 0 then 99 else 1) →
       ∀ after : Nat → Nat, after = (fun k => if code = 0 then (start + k) % 99 + 1 else (start + 97 - k) % 99 + 1) →
       ∀ takes : Preset → Bool, takes = (fun p => p.used && !p.skip && (!p.locked || s.lock.state == .unlocked)) →
       (∀ k, k < 99 → ∀ p, presetAt s (after k) = some p → takes p = true →
         (∀ j, j < k → (presetAt s (after j)).any takes = false) →
         Replies (.tuneStep code) s .ok [b8 (after k)]
           { s with
             tun := { s.tun with
               source := after k, working := ⟨p.band, p.base, p.fine, p.aft, p.sound, 0⟩, aftCount := 0
               aft := if p.aft then .settling else .off }
             settings := { s.settings with lastViewed := after k } } [] [.settings]) ∧
       ((∀ n, 1 ≤ n → n ≤ 99 → (presetAt s n).any takes = false) → Refuses (.tuneStep code) s .absent)))

/-- SOFT-RESET is answered OK; it turns the feed flag off and raises POWER with reason SOFT-RESET, closes an unlocked lock and
the edit buffer, ends a search and gives the tuner back to VIEW, takes the mode from the switches (FAULT while the stuck
flag is set), with the power warning active too, by the model (log entry 47), and leaves SETTINGS, the presets, the store's
contents, the clock and the deck power state (R202, R31, R162, R181, R103, R141). A load in progress goes on with its record
tab, P, quality, Z, memory-stop flag, measurement pair and S_t, the partial counts, residue and wind state being discarded
(R33), and so does the this-load list (R78); with no load in progress none begins, and everything but the memory-stop flag
stays absent (R33); the identity becomes NONE and the titles-opened flag clears (R60). A manual
recording ends with it: its title is CLOSED and INCOMPLETE, and NO-CUE where its mark was being written (R55), marked for
writing and reported CLOSED, and no other title changes (R31, R78, R92). The statement is for a deck that is not armed (not
in TIMER-STANDBY, where R160 may disarm it), with no programme or external recording running. -/
def Obligations.SoftResetRestartsTheBlocks : Prop :=
  ∀ s : State, Taken s → s.tim.run = none → s.tim.ext = .none → s.mech.cause = .none ∨ s.mech.cause = .manual →
    s.hold.power ≠ .timerStandby →
    ∃ t, exec .softReset s = .next t ∧ Fresh t ∧ t.link.buffer = .ready ⟨.ok, []⟩ ∧ t.link.feed = false ∧
      (t.link.notices.get .power).map (·.reason) = some softResetReason ∧
      t.mech.mode = (if s.mech.stuck then .fault else switchMode s.pins) ∧ t.mech.target = none ∧ t.mech.outcome = .none ∧
      t.mech.stuck = s.mech.stuck ∧
      t.mech.tab = s.mech.tab ∧ t.cat.thisLoad = s.cat.thisLoad ∧
      t.pos = { s.pos with residue := 0, supply := none, takeUp := none, wind := none, shown := t.pos.shown } ∧
      t.mech.cause = .none ∧ (s.mech.cause = .manual → ∀ r, s.cat.recording = some r → t.cat.recording = none ∧
        (s.cue.writer = .idle → ∀ j, r.title ≠ some j → titleAt t j = titleAt s j) ∧
        (∀ i, r.title = some i → ∀ x, titleAt s i = some x →
          (s.cue.writer = .idle → titleAt t i = some { x with isOpen := false, incomplete := true }) ∧
          (∀ tag slot n, s.cue.writer = .writing tag slot n → (titlesOf s tag).find? (fun y => y.2.slot == some slot) = some (i, x) →
            titleAt t i = some { x with isOpen := false, incomplete := true, noCue := true }) ∧
          Awaits (.title i) t ∧
          t.link.notices.get .catalogue = (noticesAfter s.link.notices [(.catalogue, closedReason, 0)]).get .catalogue)) ∧
      t.cue.identity = .none ∧ t.cue.titlesOpened = false ∧ t.cue.lastMark = .absent ∧ t.cue.writer = .idle ∧
      t.lock.state = (if s.lock.state = .unlocked then .locked else s.lock.state) ∧ t.lock.attempts = s.lock.attempts ∧
      t.lock.hold = none ∧ t.tim.edit = none ∧ t.tun.owner = .view ∧ t.tun.scan = none ∧ t.cue.seek = none ∧
      t.store.isPrepared = false ∧ t.settings = s.settings ∧ t.tun.presets = s.tun.presets ∧ t.hold = s.hold ∧
      t.store.stored = s.store.stored ∧ t.store.wipe = s.store.wipe ∧ t.pins = s.pins

/-! ### Transport (chapter 1) -/

/-- What a mode change does to the mechanism controller's own items: the reel watch is set to the window of the mode plus 2 s in
a tape-moving mode and stops elsewhere (R20); the idle timer of STILL, REC-PAUSE or READY starts, unless a programme runs,
and the others stop (R22); the drum counts and flag clear where the drum is off (R23); the 8 s of a motion and the 5 s of
the drum start (R3 to R5); capstan lock and the pulse counts clear, and PLAY starts its 3 s without a pulse (R24, R25). The
outputs (R1): in each mode the carriage motor, the drum, the capstan, the pinch roller, the brake, the loading motor and
record-enable are as the table gives them, with the capstan speed in PLAY, five times the detected play speed in the SEARCH
modes and the recording speed in REC; and a change of mode leaves the mechanism controller, and with it the outputs, as the
entry into the new mode makes them. -/
def Obligations.ModeEntryTimers : Prop :=
  (∀ (idle : Bool) (new : Mode) (m : Mech),
     (Mech.enter idle new m).mode = new ∧
     (Mech.enter idle new m).reelWatch =
       (match new with
         | .play | .recording => some 6000
         | .searchFwd | .searchRev => some 3000
         | .ff | .rew => some 2500
         | _ => none) ∧
     (Mech.enter idle new m).stillTimer = (if idle ∧ new = .still then some 300000 else none) ∧
     (Mech.enter idle new m).recPauseTimer = (if idle ∧ new = .recPause then some 300000 else none) ∧
     (Mech.enter idle new m).readyTimer = (if idle ∧ new = .ready then some 480000 else none) ∧
     (Mech.enter idle new m).motionTimer =
       (if new = .loading ∨ new = .threading ∨ new = .unthreading ∨ new = .ejecting then some 8000 else none) ∧
     (new = .threading → (Mech.enter idle new m).drumTimer = some 5000) ∧
     (new ≠ .threading → new.threaded = false → (Mech.enter idle new m).drumCount = 0 ∧
       (Mech.enter idle new m).drumLock = false ∧ (Mech.enter idle new m).drumTimer = none) ∧
     (Mech.enter idle new m).capstanLock = false ∧ (Mech.enter idle new m).inWindow = 0 ∧
     (Mech.enter idle new m).outWindow = 0 ∧ (Mech.enter idle new m).noCtl = false ∧
     (Mech.enter idle new m).ctlTimer = (if new = .play then some 3000 else none) ∧
     (Mech.enter idle new m).detected = m.detected ∧ (Mech.enter idle new m).recSpeed = m.recSpeed ∧
     (Mech.enter idle new m).tab = m.tab ∧ (Mech.enter idle new m).dewLock = m.dewLock ∧
     (Mech.enter idle new m).target = m.target ∧ (Mech.enter idle new m).outcome = m.outcome) ∧
  ((∀ m : Mech, ∀ o, o = outputs m →
     o.carriage = (if m.mode = .loading then .inward else if m.mode = .ejecting then .outward else .off) ∧
     o.drum = (match m.mode with
       | .threading => .runningUp
       | .ready | .play | .still | .searchFwd | .searchRev | .recording | .recPause => .on
       | _ => .off) ∧
     o.capstan = (match m.mode with
       | .play => .at true m.capstan
       | .searchFwd => .fiveTimes true m.detected
       | .searchRev => .fiveTimes false m.detected
       | .recording => .at true m.recSpeed
       | .ff => .wind true
       | .rew => .wind false
       | _ => .off) ∧
     (o.pinchEngaged = true ↔ m.mode = .play ∨ m.mode = .still ∨ m.mode = .searchFwd ∨ m.mode = .searchRev ∨
       m.mode = .recording ∨ m.mode = .recPause) ∧
     (o.brakeApplied = false ↔ m.mode = .play ∨ m.mode = .searchFwd ∨ m.mode = .searchRev ∨ m.mode = .recording ∨
       m.mode = .ff ∨ m.mode = .rew) ∧
     o.loading = (if m.mode = .threading then .towardThread else if m.mode = .unthreading then .towardHalt else .off) ∧
     (o.recordEnable = true ↔ m.mode = .recording)) ∧
   (∀ (new : Mode) (s : State), s.mech.mode ≠ new →
     (changeMode new s).mech = Mech.enter s.tim.run.isNone new s.mech ∧
     outputs (changeMode new s).mech = outputs (Mech.enter s.tim.run.isNone new s.mech)))

/-- The table of R16: the first condition that holds answers a transport request, and a refused request changes nothing. PAUSE
and SEARCH in another mode are refused STATE, RECORD without the record tab PROTECTED (R11, R12). WIND, SEARCH and SPEED with a
value that codes no direction and no speed are refused RANGE once R16 is passed, SEARCH in every mode (by the model, log entry
40). -/
def Obligations.TransportRequestsRefused : Prop :=
  (∀ (i : Instr) (s : State), isTransport i = true → Taken s → Quiet s →
     (s.pins.powerWarning = true → Refuses i s .state) ∧
     (s.pins.powerWarning = false → s.hold.power = .timerStandby → i ≠ .eject ∨ s.tim.run.isSome = true → Refuses i s .state) ∧
     (s.pins.powerWarning = false → s.hold.power = .on → s.tim.run.isSome = true → i ≠ .stop → Refuses i s .busy) ∧
     (s.pins.powerWarning = false → s.hold.power = .off → i ≠ .eject → Refuses i s .state) ∧
     (s.pins.powerWarning = false → s.hold.power = .on → s.tim.run = none → i ≠ .eject →
       s.mech.mode = .empty ∨ s.mech.mode = .ejecting ∨ s.mech.mode = .fault ∨ s.mech.dewLock = true → Refuses i s .state) ∧
     (s.pins.powerWarning = false → s.tim.run = none → i = .eject → s.mech.mode = .fault → s.mech.stuck = true →
       Refuses i s .state)) ∧
  (∀ s : State, Taken s → Obeys s → s.mech.mode ≠ .empty → s.mech.mode ≠ .ejecting → s.mech.mode ≠ .fault →
     (s.mech.mode ≠ .play → s.mech.mode ≠ .still → s.mech.mode ≠ .recording → s.mech.mode ≠ .recPause →
       Refuses .pause s .state) ∧
     (∀ dir, aimOf (.search (.of dir)) s.mech.mode = none → Refuses (.search (.of dir)) s .state) ∧
     (∀ n, Refuses (.wind (.other n)) s .range ∧ Refuses (.search (.other n)) s .range ∧ Refuses (.speed (.other n)) s .range) ∧
     (s.mech.tab = false → Refuses .record s .barred) ∧
     (s.mech.tab = false → s.mech.mode = .recPause → Refuses .pause s .barred))

/-- A transport request whose target is the mode itself, with no motion in flight, is reached at once with outcome DONE (R8); in
READY it restarts the READY idle limit (R22). A direct change (R7): between the threaded modes outside a recording, and
between HALTED, FF and REW, a transport request changes the mode at once and its target is reached with outcome DONE (R8,
R11 to R13). -/
def Obligations.TransportWithoutMotion : Prop :=
  (∀ (i : Instr) (s : State), Taken s → Obeys s → Unclaimed s → s.mech.mode.idleThreaded = true ∨ s.mech.mode.unthreaded = true →
     aimOf i s.mech.mode = some s.mech.mode →
     Replies i s .ok []
       (ending .done (if s.mech.mode = .ready then { s with mech := { s.mech with readyTimer := some 480000 } } else s))
       [motionReport .done] []) ∧
  (∀ (i : Instr) (s : State), Taken s → Obeys s → Unclaimed s → ∀ m, aimOf i s.mech.mode = some m →
     (s.mech.mode.idleThreaded = true ∧ m.idleThreaded = true) ∨ (s.mech.mode.unthreaded = true ∧ m.unthreaded = true) →
     m ≠ s.mech.mode →
     Replies i s .ok [] (ending .done (entered m s)) [motionReport .done] [])

/-- A target that needs a motion (R7): from HALTED, FF or REW a threaded target starts THREADING, through HALTED; from a
threaded mode outside a recording HALTED, FF or REW starts UNTHREADING; the target stays pending, and nothing is reported. A
transport request taken during a motion replaces the pending target, which is reported SUPERSEDED, and the motion runs on
(R8). RECORD with the tape unthreaded and the record tab present starts THREADING with the target REC (R12, R7). -/
def Obligations.TransportThroughMotion : Prop :=
  (∀ (i : Instr) (s : State), Taken s → Obeys s → Unclaimed s → ∀ m, aimOf i s.mech.mode = some m →
     (s.mech.mode = .halted → s.pins.cam = .haltPos → m.idleThreaded = true →
       Replies i s .ok [] (aiming (some ⟨m, .host⟩) (entered .threading s)) [] []) ∧
     (s.mech.mode.winding = true → s.pins.cam = .haltPos → m.idleThreaded = true →
       Replies i s .ok [] (aiming (some ⟨m, .host⟩) (entered .threading (entered .halted s))) [] []) ∧
     (s.mech.mode.idleThreaded = true → s.pins.cam = .threadPos → m.unthreaded = true →
       Replies i s .ok [] (aiming (some ⟨m, .host⟩) (entered .unthreading s)) [] [])) ∧
  (∀ (i : Instr) (s : State), Taken s → Obeys s → s.cue.seek = none → s.mech.cause = .none →
     (∃ old, s.mech.target = some ⟨old, .host⟩) → ∀ m, aimOf i s.mech.mode = some m →
     (s.mech.mode = .loading ∨ (s.mech.mode = .threading ∧ s.pins.cam ≠ .threadPos) ∨
       (s.mech.mode = .unthreading ∧ s.pins.cam ≠ .haltPos)) →
     Replies i s .ok [] (aiming (some ⟨m, .host⟩) (ending .superseded s)) [motionReport .superseded] []) ∧
  (∀ s : State, Taken s → Obeys s → Unclaimed s → s.mech.tab = true → s.pins.cam = .haltPos → s.mech.mode = .halted →
     Replies .record s .ok [] (aiming (some ⟨.recording, .host⟩) (entered .threading s)) [] [])

/-- A REC start (R26, R89): RECORD in a threaded mode with the record tab present and a catalogued cassette, P standing in no
title and no protected title ahead, enters REC with cause MANUAL and the record speed setting, takes the tuner, opens a
title at P in a free record of the pool with the lowest free slot, placed in its cassette's list by R75 and at the end of
the this-load list, and asks for its mark. The start test (R88): inside a protected anchored title of the cassette RECORD is
refused PROTECTED, the record speed being the setting by then (R26); inside another, that title is cut at P and flagged
TRIMMED (a MIXED one keeps its speed and switch offset, by the model, log entry 54), and, where less than 4F HU is left,
retired, its mark living on as a dead mark where it lies before P. With identity NONE no test is made: a cassette record is
created, ASSERTED, and IDENTIFIED is raised, or, with no record free, the recording is uncatalogued and NO-CASSETTE raised. -/
def Obligations.RecordOpensATitle : Prop :=
  (∀ s : State, Taken s → Obeys s → Unclaimed s → s.mech.mode.idleThreaded = true → s.mech.tab = true → startOn s = none →
     s.tun.owner = .view → s.tun.scan = none → s.cue.writer = .idle → ∀ tag, s.cue.identity.tag = some tag →
     ∀ c, cassetteOf s tag = some c → ∀ pl, s.pos.place = some pl → ∀ i, freeRecord s.cat = some i →
     (titlesOf s tag).length < 63 → limitFrom s tag pl.p = none →
     ∃ t, exec .record s = .next t ∧ Fresh t ∧ t.link.buffer = .ready ⟨.ok, []⟩ ∧
       t.mech.mode = .recording ∧ t.mech.cause = .manual ∧ t.mech.recSpeed = s.settings.recordSpeed ∧ t.mech.target = none ∧
       t.mech.outcome = .done ∧ t.tun = { s.tun with owner := .record, saved := some s.tun.source } ∧
       titleAt s i = none ∧
       titleAt t i = some {
         tag := tag, slot := freeSlot s tag, anchored := (anchoredP s).isSome, start := pl.p, length := 0
         speed := if s.settings.recordSpeed = .std then .std else .long, switchAt := none
         source := s.tun.source, recordedAt := s.hold.now, origin := .manual, isOpen := true, isProtected := false
         locked := presetLocked s s.tun.source, incomplete := false, noCue := (freeSlot s tag).isNone, trimmed := false
         name := [] } ∧ (∀ j, j ≠ i → titleAt t j = titleAt s j) ∧
       (∀ ahead : Nat × Title → Bool,
         ahead = (fun y => (anchoredP s).isNone || (y.2.anchored && decide (y.2.start ≤ pl.p))) →
         cassetteOf t tag = some { c with titles :=
           ((titlesOf s tag).takeWhile ahead).map (·.1) ++ i :: ((titlesOf s tag).dropWhile ahead).map (·.1) }) ∧
       (∀ other, other ≠ tag → cassetteOf t other = cassetteOf s other) ∧ t.cat.thisLoad = s.cat.thisLoad ++ [i] ∧
       t.cat.recording = some ⟨pl.p, (anchoredP s).isSome, some i, some tag⟩ ∧ t.cue.titlesOpened = true ∧
       t.cue.writer = (match freeSlot s tag with
         | some k => .writing tag k 1
         | none => .idle) ∧
       Awaits (.title i) t ∧ Awaits (.cassette c.place) t ∧
       (replied .ok [] { s with mech := t.mech, pos := t.pos, cue := t.cue, cat := t.cat, tun := t.tun }).plain = t.plain) ∧
  (∀ s : State, Taken s → Obeys s → Unclaimed s → s.mech.mode.idleThreaded = true → s.mech.tab = true →
     s.tun.owner = .view → s.tun.scan = none → s.cue.writer = .idle → ∀ pl, s.pos.place = some pl →
     (∀ tag, s.cue.identity.tag = some tag → (anchoredP s).isSome = true → ∀ c, cassetteOf s tag = some c →
       ∀ y, (titlesOf s tag).find? (fun z => z.2.anchored && decide (z.2.start ≤ pl.p) && decide (pl.p < z.2.start + z.2.length)) =
         some y →
       (y.2.isProtected = true →
         Replies .record s .barred [] { s with mech := { s.mech with recSpeed := s.settings.recordSpeed } } [] []) ∧
       (y.2.isProtected = false → 4 * (fr s : Int) ≤ pl.p - y.2.start → limitFrom s tag pl.p = none →
         ∃ t, exec .record s = .next t ∧ t.link.buffer = .ready ⟨.ok, []⟩ ∧ t.mech.mode = .recording ∧ t.mech.cause = .manual ∧
           titleAt t y.1 = some { y.2 with length := (pl.p - y.2.start).toNat, trimmed := true } ∧ Awaits (.title y.1) t ∧
           t.tun = { s.tun with owner := .record, saved := some s.tun.source }) ∧
       (y.2.isProtected = false → pl.p - y.2.start < 4 * (fr s : Int) → y.2.tag = tag → limitFrom s tag pl.p = none →
         c.dead.length < 8 →
         ∃ t, exec .record s = .next t ∧ t.link.buffer = .ready ⟨.ok, []⟩ ∧ t.mech.mode = .recording ∧ t.mech.cause = .manual ∧
           (titleAt t y.1 = none ∨ t.cat.recording.bind (·.title) = some y.1) ∧
           ∃ d, cassetteOf t tag = some d ∧
             (∀ n, y.2.slot = some n → y.2.noCue = false → y.2.start < pl.p → d.dead = c.dead ++ [⟨n, some y.2.start⟩]) ∧
             (y.2.slot = none ∨ y.2.noCue = true ∨ y.2.start = pl.p → d.dead = c.dead))) ∧
     (s.cue.identity = .none → s.cat.cassettes.length < 48 → 1 ≤ s.settings.nextTag → s.settings.nextTag ≤ 1023 →
       ∀ i, freeRecord s.cat = some i →
       ∃ t, exec .record s = .next t ∧ t.link.buffer = .ready ⟨.ok, []⟩ ∧ t.mech.mode = .recording ∧
         (t.link.notices.get .cassette).map (·.reason) = some identifiedReason ∧
         ∃ tag, t.cue.identity = .asserted tag ∧ 1 ≤ tag ∧ tag ≤ 1023 ∧ cassetteOf s tag = none ∧
           (∃ d, cassetteOf t tag = some d ∧ d.titles = [i] ∧ d.cls = s.settings.defaultClass) ∧
           (∃ x, titleAt t i = some x ∧ x.tag = tag ∧ x.slot = some 1 ∧ x.isOpen = true)) ∧
     (s.cue.identity = .none → 48 ≤ s.cat.cassettes.length →
       ∃ t, exec .record s = .next t ∧ t.link.buffer = .ready ⟨.ok, []⟩ ∧ t.mech.mode = .recording ∧ t.mech.cause = .manual ∧
         t.cat.recording = some ⟨pl.p, (anchoredP s).isSome, none, none⟩ ∧ t.cat.pool = s.cat.pool ∧
         t.cat.cassettes = s.cat.cassettes ∧ t.cue.identity = .none ∧ t.cue.writer = .idle ∧
         (t.link.notices.get .catalogue).map (·.reason) = some noCassetteReason))

/-- PAUSE in REC enters REC-PAUSE with the recording still open, and RECORD resumes it at the recording speed in force, the
spacing of the pulses starting afresh, by the model (log entry 51); no title is opened (R12, R15). The clauses are for a
machine in which no mark is being written and P lies below the protection limit. STOP in REC or REC-PAUSE ends the recording
(R13, R28, R92): the open title is closed, the recording record discarded, the cause none, the mode READY; and the tuner,
where the recording holds it, goes back to VIEW on its saved source (R117), a line input or source 0 tuned as the model does
(log entries 25 and 59). A forward counting step in REC of an anchored recording trims what the new tape covers (R91): an
anchored title of the cassette that starts from the reference start up to the new P starts at the new P, TRIMMED and NO-CUE,
and is retired with less than 4F HU left; no dead mark is left there. Here and below a MIXED title whose start moves or
whose length is cut keeps its switch offset, by the model (log entry 54). An anchor rebases the relative titles of the load
(R95, R93, R39): at the BOT anchor a title recorded at an unanchored position becomes anchored, its start moved with P, and
raises REBASED, by the model (log entry 63) also where it moves by 0; an older title of its cassette that it overlaps is cut
at its start where it begins before it, and begins at its end, TRIMMED and NO-CUE, where not; one shorter than 4F HU then is
retired, as the new title itself is; and a title cut at 0 loses what lies below. The statement is for one relative title,
CLOSED as a title is without an open recording, no seek and no memory stop. -/
def Obligations.RecordingPausesAndEnds : Prop :=
  (∀ s : State, Taken s → Obeys s → s.mech.target = none → s.cue.seek = none → s.mech.cause = .manual → s.cue.writer = .idle →
     limitReached { s with mech := { s.mech with mode := .recording } } = false → s.mech.tab = true →
     (s.mech.mode = .recording →
       Replies .pause s .ok []
         (ending .done (entered .recPause { s with cue := { s.cue with writePhase := 0, written := none } }))
         [motionReport .done] []) ∧
     (s.mech.mode = .recPause → Replies .record s .ok [] (ending .done (entered .recording s)) [motionReport .done] [])) ∧
  (∀ s : State, Taken s → Obeys s → s.mech.target = none → s.cue.seek = none → s.mech.cause = .manual →
     s.mech.mode.inRecording = true → s.cue.writer = .idle →
     ∀ r, s.cat.recording = some r → ∀ i, r.title = some i → ∀ x, titleAt s i = some x →
     ∃ t, exec .stop s = .next t ∧ Fresh t ∧ t.link.buffer = .ready ⟨.ok, []⟩ ∧
       t.mech.mode = .ready ∧ t.mech.cause = .none ∧ t.mech.target = none ∧ t.mech.outcome = .done ∧
       titleAt t i = some { x with isOpen := false } ∧ (∀ j, j ≠ i → titleAt t j = titleAt s j) ∧ t.cat.recording = none ∧
       t.tun = (if s.tun.owner = .record then givenBack s else s.tun) ∧
       t.cat.cassettes = s.cat.cassettes ∧ Awaits (.title i) t ∧
       (∀ k, k ≠ .feed ∨ t.link.feed = false → t.link.notices.get k = (noticesAfter s.link.notices
         [(.catalogue, closedReason, 0), motionReport .done]).get k) ∧
       (replied .ok [] { s with mech := t.mech, pos := t.pos, cue := t.cue, cat := t.cat, tun := t.tun }).plain = t.plain) ∧
  (∀ s : State, s.mainPower = true → s.mech.mode = .recording → s.mech.forward = true → s.tim.run = none → s.cue.seek = none →
     s.pos.memoryStop = false → ∀ pl, s.pos.place = some pl → pl.quality ≠ .unanchored → 0 ≤ pl.p → pl.p < 1048575 →
     ∀ r, s.cat.recording = some r → r.anchored = true → ∀ tag, r.tag = some tag → s.cue.identity.tag = some tag →
     ∀ c, cassetteOf s tag = some c → (∀ y ∈ titlesOf s tag, y.2.tag = tag ∧ y.2.isProtected = false) → s.cue.writer = .idle →
     ∃ t, exec .countingStep s = .next t ∧ t.pos.place = some ⟨pl.p + 1, pl.quality⟩ ∧ t.mech.mode = .recording ∧
       (∀ y ∈ titlesOf s tag, r.title ≠ some y.1 → y.2.anchored = true → r.ref ≤ y.2.start → y.2.start < pl.p + 1 →
         (4 * (fr s : Int) ≤ y.2.start + y.2.length - (pl.p + 1) →
           titleAt t y.1 = some { y.2 with
             start := pl.p + 1, length := (y.2.start + y.2.length - (pl.p + 1)).toNat, trimmed := true, noCue := true }) ∧
         (y.2.start + y.2.length - (pl.p + 1) < 4 * (fr s : Int) → titleAt t y.1 = none)) ∧
       (∀ y ∈ titlesOf s tag, r.title ≠ some y.1 → y.2.anchored = false ∨ y.2.start < r.ref ∨ pl.p + 1 ≤ y.2.start →
         titleAt t y.1 = some y.2) ∧
       (∃ d, cassetteOf t tag = some d ∧ d.dead = c.dead.filter fun e => match e.pos with
         | some p => !(decide (r.ref ≤ p) && decide (p < pl.p + 1))
         | none => true)) ∧
  (∀ s : State, s.mainPower = true → s.tim.run = none → s.cue.seek = none → s.pos.memoryStop = false →
     s.mech.mode = .rew ∨ s.mech.mode = .searchRev → s.cat.recording = none → ∀ pl, s.pos.place = some pl →
     pl.quality = .unanchored → ∀ i, s.cat.thisLoad = [i] → ∀ x, titleAt s i = some x → x.anchored = false →
     x.isOpen = false → ∀ c, cassetteOf s x.tag = some c → i ∈ c.titles → (∀ y ∈ titlesOf s x.tag, y.2.tag = x.tag) →
     ∀ a, a = max 0 (x.start - pl.p) → ∀ b, b = x.start - pl.p + x.length → b ≤ 1048575 →
     ∃ t, exec (.botAnchor true) s = .next t ∧ t.pos.place = some ⟨0, .exact⟩ ∧
       (t.link.notices.get .catalogue).map (·.reason) = some rebasedReason ∧
       (4 * (fr s : Int) ≤ b - a →
         titleAt t i = some { x with anchored := true, start := a, length := (b - a).toNat } ∧
         (∀ y ∈ titlesOf s x.tag, y.1 ≠ i → y.2.anchored = true →
           (b ≤ y.2.start ∨ y.2.start + y.2.length ≤ a → titleAt t y.1 = some y.2) ∧
           (y.2.start < a → a < y.2.start + y.2.length →
             (4 * (fr s : Int) ≤ a - y.2.start →
               titleAt t y.1 = some { y.2 with length := (a - y.2.start).toNat, trimmed := true }) ∧
             (a - y.2.start < 4 * (fr s : Int) → titleAt t y.1 = none)) ∧
           (a ≤ y.2.start → y.2.start < b →
             (4 * (fr s : Int) ≤ y.2.start + y.2.length - b →
               titleAt t y.1 = some { y.2 with
                 start := b, length := (y.2.start + y.2.length - b).toNat, trimmed := true, noCue := true }) ∧
             (y.2.start + y.2.length - b < 4 * (fr s : Int) → a < y.2.start + y.2.length → titleAt t y.1 = none)))) ∧
       (b - a < 4 * (fr s : Int) → titleAt t i = none))

/-- EJECT (R13, R5): from HALTED it ends the load and starts EJECTING; from a threaded mode outside a recording it starts
UNTHREADING, the load going on; in EMPTY its target is reached at once. It is taken with the deck OFF as well as ON. In
FAULT with the stuck flag clear it starts UNTHREADING and clears the fault reason, and with the cam at HALT-POS goes on to
EJECTING at once (R18); the machine holds that such an EJECT is under way (log entry 38). With the stuck flag set it is
refused STATE (R16). A falling edge of a STOP-KEY or EJECT-KEY line acts as the request and gives no answer (R14, R203):
STOP in FF or REW halts, EJECT in EMPTY is reached at once; an edge of a line without that function does nothing. -/
def Obligations.EjectAndKeys : Prop :=
  (∀ s : State, Taken s → s.pins.powerWarning = false → s.hold.power ≠ .timerStandby → s.tim.run = none → Unclaimed s →
     (s.mech.mode = .fault → s.mech.stuck = true → Refuses .eject s .state) ∧
     (s.mech.mode = .fault → s.mech.stuck = false → s.pins.cam ≠ .haltPos →
       ∃ t, exec .eject s = .next t ∧
         Leaves s (replied .ok [] (aiming (some ⟨.empty, .host⟩)
           (entered .unthreading { s with mech := { s.mech with faultEject := true } }))) t [] [] ∧
         t.mech.mode = .unthreading ∧ t.mech.faultReason = none ∧ t.mech.motionTimer = some 8000 ∧ t.mech.faultEject = true) ∧
     (s.mech.mode = .fault → s.mech.stuck = false → s.pins.cam = .haltPos →
       ∃ t, exec .eject s = .next t ∧ t.link.buffer = .ready ⟨.ok, []⟩ ∧ t.mech.mode = .ejecting ∧ t.mech.faultReason = none ∧
         t.mech.motionTimer = some 8000 ∧ t.mech.target = some ⟨.empty, .host⟩ ∧ t.mech.faultEject = true ∧
         t.pos.place = none ∧ t.cue.identity = .none ∧ t.cat.thisLoad = [] ∧ t.cat.pool = s.cat.pool) ∧
     (s.mech.mode = .halted →
       Replies .eject s .ok []
         (aiming (some ⟨.empty, .host⟩) (entered .ejecting { s with
           mech := { s.mech with tab := false, faultEject := false }
           pos := Pos.noLoad s.pos.memoryStop s.pos.shown
           cue := Cue.initial
           cat := { s.cat with thisLoad := [], recording := none }
           lock := { s.lock with hold := none } })) [] []) ∧
     (s.mech.mode.idleThreaded = true → s.pins.cam = .threadPos →
       Replies .eject s .ok [] (aiming (some ⟨.empty, .host⟩)
         (entered .unthreading { s with mech := { s.mech with faultEject := false } })) [] []) ∧
     (s.mech.mode = .empty → Replies .eject s .ok []
       (ending .done { s with mech := { s.mech with faultEject := false } }) [motionReport .done] [])) ∧
  (∀ s : State,
     (lineAssigned s .stopKey = false → exec .stopKeyEdge s = .next s) ∧
     (lineAssigned s .ejectKey = false → exec .ejectKeyEdge s = .next s) ∧
     (s.mainPower = true → lineAssigned s .stopKey = true → Obeys s → Unclaimed s → s.mech.mode.winding = true →
       Becomes .stopKeyEdge s (ending .done (entered .halted (setLine .stopKey true s))) [motionReport .done] []) ∧
     (s.mainPower = true → lineAssigned s .ejectKey = true → s.pins.powerWarning = false → s.hold.power ≠ .timerStandby →
       s.tim.run = none → Unclaimed s → s.mech.faultEject = false → s.mech.mode = .empty →
       Becomes .ejectKeyEdge s (ending .done (setLine .ejectKey true s)) [motionReport .done] []))

/-- The refusals of a seek beyond R16, in order (R66, R70): STATE in REC and REC-PAUSE, ABSENT with identity NONE or, for
SEEK-TITLE, no anchored title in the slot, STATE with an unanchored position. A seek begins (R66, R67, R70): from HALTED, FF
or REW with the target start more than 60F HU away, the seek enters WIND and the tape winds toward the stop point 20F HU
before it; nearer, it enters APPROACH and the tape is threaded. A seek goes on (R67 to R69): WIND ends at the wind step that
reaches the stop point, the tape threading to READY; there the tape is searched back to the stop point, or, already 4F HU
before the start, SCAN begins in SEARCH-FWD, or PLAY-IN in PLAY for a title without its mark and for SEEK-END; a search back
ends at the stop point (at 0 where the start lies below 20F HU, log entry 49); SCAN beyond the start plus 60F HU turns into
RETURN; PLAY-IN and RETURN end in STILL with outcome APPROXIMATE. A seek ends (R69, R71): the mark of its title accepted in
SCAN leaves STILL with outcome FOUND; a transport request that is taken aborts it, ABORTED being reported before the
request's own target; dew aborts it after its own report; and the retiring of its title stops the tape. The place that SEEK-END
goes to (R70) is 4F HU beyond the end of the anchored title with the highest start, and 10F HU where there is no such title. -/
def Obligations.SeeksRefusedAndBegun : Prop :=
  (∀ (s : State) (tag : Nat),
     ((∀ y ∈ titlesOf s tag, y.2.anchored = false) → endTarget s tag = 10 * fr s) ∧
     (∀ (n : Nat) (y : Nat × Title), (titlesOf s tag)[n]? = some y → y.2.anchored = true →
       (∀ (m : Nat) (z : Nat × Title), m ≠ n → (titlesOf s tag)[m]? = some z → z.2.anchored = true → z.2.start < y.2.start) →
       endTarget s tag = y.2.start + y.2.length + 4 * fr s) ∧
     fr s = (if s.settings.standard = .s625 then 25 else 30)) ∧
  (∀ (slot : Nat) (s : State), Taken s → Obeys s → s.mech.mode ≠ .empty → s.mech.mode ≠ .ejecting → s.mech.mode ≠ .fault →
     (s.mech.mode.inRecording = true → Refuses (.seekTitle slot) s .state ∧ Refuses .seekEnd s .state) ∧
     (s.mech.mode.inRecording = false → s.cue.identity = .none →
       Refuses (.seekTitle slot) s .absent ∧ Refuses .seekEnd s .absent) ∧
     (s.mech.mode.inRecording = false → ∀ tag, s.cue.identity.tag = some tag →
       (titleBySlot s tag slot = none → Refuses (.seekTitle slot) s .absent) ∧
       (∀ x, titleBySlot s tag slot = some x → x.2.anchored = false → Refuses (.seekTitle slot) s .absent) ∧
       (∀ x, titleBySlot s tag slot = some x → x.2.anchored = true → anchoredP s = none →
         Refuses (.seekTitle slot) s .state) ∧
       (anchoredP s = none → Refuses .seekEnd s .state))) ∧
  (∀ (slot : Nat) (s : State), Taken s → Obeys s → Unclaimed s → s.mech.mode.unthreaded = true → s.pins.cam = .haltPos →
     ∀ tag, s.cue.identity.tag = some tag → ∀ p, anchoredP s = some p → 0 ≤ p →
     ∀ wound : Mode → SeekKind → State, wound = (fun m k =>
       { (if s.mech.mode = m then s else entered m s) with cue := { s.cue with seek := some ⟨k, .wind⟩ } }) →
     ∀ near : SeekKind → State, near = (fun k =>
       aiming (some ⟨.ready, .seek⟩)
         { entered .threading (if s.mech.mode = .halted then s else entered .halted s) with
           cue := { s.cue with seek := some ⟨k, .approach⟩ } }) →
     (∀ x, titleBySlot s tag slot = some x → x.2.anchored = true →
       (60 * (fr s : Int) < x.2.start - p → Replies (.seekTitle slot) s .ok [] (wound .ff (.title tag slot)) [] []) ∧
       (60 * (fr s : Int) < p - x.2.start → Replies (.seekTitle slot) s .ok [] (wound .rew (.title tag slot)) [] []) ∧
       (apart p x.2.start ≤ 60 * fr s → Replies (.seekTitle slot) s .ok [] (near (.title tag slot)) [] [])) ∧
     (60 * (fr s : Int) < endTarget s tag - p → Replies .seekEnd s .ok [] (wound .ff (.endOf (endTarget s tag))) [] []) ∧
     (60 * (fr s : Int) < p - endTarget s tag → Replies .seekEnd s .ok [] (wound .rew (.endOf (endTarget s tag))) [] []) ∧
     (apart p (endTarget s tag) ≤ 60 * fr s → Replies .seekEnd s .ok [] (near (.endOf (endTarget s tag))) [] [])) ∧
  (∀ s : State, s.mainPower = true → s.tim.run = none → s.mech.cause = .none → s.pos.memoryStop = false →
     hostSeek s = true → ∀ k, s.cue.seek = some k → ∀ start, seekStart s k.kind = some start →
     ∀ pl, s.pos.place = some pl → ∀ stopAt, stopAt = max 0 (start - 20 * fr s) →
     (s.mech.mode = .ff → k.phase = .wind → s.pins.cam = .haltPos → s.mech.target = none → ∀ w, s.pos.wind = some w →
       ∀ q, q = (if pl.quality = .exact then .estimated else pl.quality) →
       ∀ p, p = clampP q (pl.p + ((w.c + w.a) / 256 : Nat)) → p ≠ pl.p →
       ∃ t, exec .ffWindStep s = .next t ∧ t.pos.place = some ⟨p, q⟩ ∧ t.cue.seek = s.cue.seek ∧
         (p < stopAt → t.mech.mode = .ff) ∧
         (stopAt ≤ p → t.mech.mode = .threading ∧ t.mech.target = some ⟨.ready, .seek⟩)) ∧
     (s.mech.mode = .threading → s.mech.drumLock = true → s.mech.target = some ⟨.ready, .seek⟩ →
       k.phase = .wind ∨ k.phase = .approach →
       ∃ t, exec .threadingComplete s = .next t ∧ t.pos.place = s.pos.place ∧ t.mech.target = none ∧
         (start - 4 * fr s < pl.p → t.mech.mode = .searchRev ∧ t.cue.seek = some { k with phase := .approach }) ∧
         (pl.p ≤ start - 4 * fr s → seeksMark s k.kind = true →
           t.mech.mode = .searchFwd ∧ t.cue.seek = some { k with phase := .scan }) ∧
         (pl.p ≤ start - 4 * fr s → seeksMark s k.kind = false →
           t.mech.mode = .play ∧ t.cue.seek = some { k with phase := .playIn })) ∧
     (s.mech.target = none → s.mech.mode = .searchRev → s.mech.forward = false →
       (pl.quality = .unanchored ∧ -1048575 < pl.p) ∨ 0 < pl.p → pl.p ≤ 1048575 →
       ∃ t, exec .countingStep s = .next t ∧ t.pos.place = some ⟨pl.p - 1, pl.quality⟩ ∧
         (k.phase = .approach → pl.p - 1 ≤ stopAt →
           t.mech.mode = (if seeksMark s k.kind = true then .searchFwd else .play) ∧
           t.cue.seek = some { k with phase := if seeksMark s k.kind = true then .scan else .playIn }) ∧
         (k.phase = .approach → stopAt < pl.p - 1 → t.mech.mode = .searchRev ∧ t.cue.seek = s.cue.seek) ∧
         (k.phase = .back → pl.p - 1 ≤ start →
           t.mech.mode = .still ∧ t.cue.seek = none ∧ t.mech.outcome = .approximate) ∧
         (k.phase = .back → start < pl.p - 1 → t.mech.mode = .searchRev ∧ t.cue.seek = s.cue.seek)) ∧
     (s.mech.target = none → s.mech.mode = .searchFwd ∨ s.mech.mode = .play → s.mech.forward = true → pl.p < 1048575 →
       -1 ≤ pl.p → s.cat.recording = none →
       ∃ t, exec .countingStep s = .next t ∧ t.pos.place = some ⟨pl.p + 1, pl.quality⟩ ∧
         (s.mech.mode = .searchFwd → k.phase = .scan → start + 60 * fr s < pl.p + 1 →
           t.mech.mode = .searchRev ∧ t.cue.seek = some { k with phase := .back }) ∧
         (s.mech.mode = .searchFwd → k.phase = .scan → pl.p + 1 ≤ start + 60 * fr s →
           t.mech.mode = .searchFwd ∧ t.cue.seek = s.cue.seek) ∧
         (s.mech.mode = .play → k.phase = .playIn → start ≤ pl.p + 1 →
           t.mech.mode = .still ∧ t.cue.seek = none ∧ t.mech.outcome = .approximate) ∧
         (s.mech.mode = .play → k.phase = .playIn → pl.p + 1 < start → t.mech.mode = .play ∧ t.cue.seek = s.cue.seek))) ∧
  (∀ s : State, s.mainPower = true → s.tim.run = none → s.mech.target = none → s.mech.cause = .none →
     hostSeek s = true → ∀ k, s.cue.seek = some k →
     (∀ bits : List Bool, bits.length = 17 → (bits.filter id).length % 2 = 0 → s.mech.mode = .searchFwd → k.phase = .scan →
       s.cue.identity = .read (bitsValue (bits.take 10)) →
       k.kind = .title (bitsValue (bits.take 10)) (bitsValue ((bits.drop 10).take 6)) →
       ∀ tag, tag = bitsValue (bits.take 10) → ∀ slot, slot = bitsValue ((bits.drop 10).take 6) →
       (cassetteOf s tag).isSome = true → ∀ j x, titleBySlot s tag slot = some (j, x) → x.anchored = true →
       slotDead s tag slot = false → s.pos.place.map (·.quality) = some .estimated → s.cat.thisLoad = [] →
       s.cat.recording = none → s.pos.memoryStop = false → 0 ≤ x.start → x.start ≤ 1000000 →
       (∀ c ∈ s.cat.cassettes, orderTitles (titlesOf s c.tag) = titlesOf s c.tag) →
       ∃ t, exec (.markDecoded bits) s = .next t ∧ t.mech.mode = .still ∧ t.cue.seek = none ∧ t.mech.outcome = .found ∧
         (t.link.notices.get .motion).map (·.reason) = some (outcomeCode .found) ∧
         t.pos.place = some ⟨x.start + (if x.speed = .long then 25 else 50), .exact⟩) ∧
     (Taken s → Obeys s → s.mech.mode.winding = true →
       Replies .halt s .ok [] (ending .done (entered .halted { s with cue := { s.cue with seek := none } }))
         [motionReport .aborted, motionReport .done] []) ∧
     (s.mech.mode.winding = true →
       Becomes .dewActive s
         (ending .aborted (entered .halted { s with
           pins := { s.pins with dew := true }
           mech := { s.mech with dewLock := true, dewWait := none }
           cue := { s.cue with seek := none } }))
         [motionReport .dew, motionReport .aborted, (.fault, dewReason, 0)] []) ∧
     (∀ tag slot, k.kind = .title tag slot → Taken s → Quiet s → wiping s .catalogue = false → 1 ≤ tag → tag ≤ 1023 →
       ∀ n j x, (titlesOf s tag)[n]? = some (j, x) → x.tag = tag → x.slot = some slot → x.isProtected = false →
       x.locked = false → x.isOpen = false → s.mech.mode.winding = true →
       ∃ t, exec (.titleRetire tag n) s = .next t ∧ t.link.buffer = .ready ⟨.ok, []⟩ ∧ titleAt t j = none ∧
         t.cue.seek = none ∧ t.mech.mode = .halted ∧ t.mech.outcome = .aborted))

/-! ### The catalogue (chapter 4) -/

/-- The common refusals of the catalogue's requests (4.4, R72): BUSY while a wipe of CATALOGUE or ALL is in progress, RANGE for
a tag outside 1 to 1023, ABSENT for a tag that no cassette record holds. That ABSENT comes before the RANGE of a class of
CASSETTE-CLASS and of a slot of TITLE-READ-SLOT is the model's choice of order (log entries 39 and 56). CASSETTE-LIST,
CASSETTE-READ, TITLE-READ, TITLE-READ-SLOT and TITLE-FIND answer with the record named, in the layouts of 11.8, or ABSENT,
and change nothing (R79, R84, R87): a title by its index, by its slot, or the first after the cursor that matches the key.
The bytes of a cassette's record and of a title's record that the layouts of 11.8 place, and the bits of their flag bytes
(R79, R84). -/
def Obligations.CatalogueIsRead : Prop :=
  (∀ (i : Instr) (tag : Nat) (s : State), Taken s → Quiet s →
     i = .cassetteRead tag ∨ (∃ c, i = .cassetteClass tag c) ∨ i = .cassetteRetire tag ∨ (∃ n, i = .titleRead tag n) ∨
       (∃ n, i = .titleReadSlot tag n) ∨ (∃ n on, i = .titleProtect tag n on) ∨ (∃ n, i = .titleRetire tag n) →
     (wiping s .catalogue = true → Refuses i s .busy) ∧
     (wiping s .catalogue = false → tag = 0 ∨ 1023 < tag → Refuses i s .range) ∧
     (wiping s .catalogue = false → 1 ≤ tag → tag ≤ 1023 → cassetteOf s tag = none → Refuses i s .absent)) ∧
  (∀ s : State, Taken s → Quiet s → wiping s .catalogue = false →
     (∀ n c, s.cat.cassettes[n]? = some c → Replies (.cassetteList n) s .ok (cassetteData s n c) s [] []) ∧
     (∀ n, s.cat.cassettes.length ≤ n → Refuses (.cassetteList n) s .absent) ∧
     (∀ tag, 1 ≤ tag → tag ≤ 1023 → ∀ c, cassetteOf s tag = some c → ∃ n,
       s.cat.cassettes[n]? = some c ∧ Replies (.cassetteRead tag) s .ok (cassetteData s n c) s [] [] ∧
       (∀ k x, (titlesOf s tag)[k]? = some x → Replies (.titleRead tag k) s .ok (titleData s k x.2) s [] []) ∧
       (∀ k, (titlesOf s tag).length ≤ k → Refuses (.titleRead tag k) s .absent) ∧
       (∀ slot, slot = 0 ∨ 63 < slot → Refuses (.titleReadSlot tag slot) s .range) ∧
       (∀ slot, 1 ≤ slot → slot ≤ 63 → titleBySlot s tag slot = none → Refuses (.titleReadSlot tag slot) s .absent) ∧
       (∀ slot, 1 ≤ slot → slot ≤ 63 → ∀ x, titleBySlot s tag slot = some x → ∃ k, (titlesOf s tag)[k]? = some x ∧
         x.2.slot = some slot ∧ Replies (.titleReadSlot tag slot) s .ok (titleData s k x.2) s [] [])) ∧
     (∀ tag index src, tag ≤ 1023 → src = 0 ∨ isSource src = true →
       (∀ x, (allTitles s).find? (fun y => (tag < y.2.tag ∨ (y.2.tag = tag ∧ index < y.1)) ∧ y.2.source = src) = some x →
         Replies (.titleFind tag index (.source src)) s .ok (titleData s x.1 x.2) s [] []) ∧
       ((∀ y ∈ allTitles s, ¬((tag < y.2.tag ∨ (y.2.tag = tag ∧ index < y.1)) ∧ y.2.source = src)) →
         Refuses (.titleFind tag index (.source src)) s .absent)) ∧
     (∀ tag index (text : Text), tag ≤ 1023 → text.length ≤ 12 → (∀ x ∈ text, 0x20 ≤ x ∧ x ≤ 0x7E) →
       (∀ x, (allTitles s).find? (fun y => (tag < y.2.tag ∨ (y.2.tag = tag ∧ index < y.1)) ∧ text <+: y.2.name) = some x →
         Replies (.titleFind tag index (.namePrefix text)) s .ok (titleData s x.1 x.2) s [] []) ∧
       ((∀ y ∈ allTitles s, ¬((tag < y.2.tag ∨ (y.2.tag = tag ∧ index < y.1)) ∧ text <+: y.2.name)) →
         Refuses (.titleFind tag index (.namePrefix text)) s .absent)) ∧
     (∀ tag index key, 1023 < tag → Refuses (.titleFind tag index key) s .range)) ∧
  (∀ (s : State) (n : Nat) (c : Cassette) (t : Title),
     (cassetteData s n c).length = 18 + c.label.length ∧ (cassetteData s n c).take 2 = [b8 (c.tag / 256), b8 c.tag] ∧
     ((cassetteData s n c)[2]?).map (fun v => v.toNat % 16) = some ((match c.cls with
         | .a => 0
         | .b => 1
         | .c => 2) + (if c.total.isSome then 4 else 0) + (if s.cue.identity.tag = some c.tag then 8 else 0)) ∧
     ((cassetteData s n c).drop 6).take 8 = be32 c.registered ++ be32 c.lastLoaded ∧
     (∀ v, c.total = some v → ((cassetteData s n c).drop 3).take 3 = be24 v) ∧
     (cassetteData s n c).drop 14 = [b8 (titlesOf s c.tag).length, b8 c.dead.length, b8 n, b8 c.label.length] ++ c.label ∧
     (titleData s n t).length = 20 + t.name.length ∧ (titleData s n t).take 2 = be16 (t.tag * 64 + n % 64) ∧
     (titleData s n t)[2]? = some (b8 (t.slot.getD 0)) ∧
     ((titleData s n t)[3]?).map (fun v => v.toNat % 128) = some ((if t.isProtected then 1 else 0) + (if t.locked then 2 else 0) +
       (if t.incomplete then 4 else 0) + (if t.noCue then 8 else 0) + (if t.trimmed then 16 else 0) +
       (if t.anchored then 0 else 32) + (if t.isOpen then 64 else 0)) ∧
     ((titleData s n t)[4]?).map (fun v => v.toNat % 16) = some ((match t.speed with
         | .std => 0
         | .long => 1
         | .mixed => 2) + (match t.origin with
         | .manual => 0
         | .programme _ => 4
         | .external => 8)) ∧
     (∀ k, k < 16 → t.origin = .programme k → ((titleData s n t)[4]?).map (fun v => v.toNat / 16) = some k) ∧
     (titleData s n t).drop 5 = be24 (twos 24 t.start) ++ be24 t.length ++ be24 (t.switchAt.getD 0xFFFFFF) ++
       [b8 t.source] ++ be32 t.recordedAt ++ [b8 t.name.length] ++ t.name)

/-- CASSETTE-LABEL sets the label and CASSETTE-CLASS the thickness class of a cassette record, marked for writing; a label too
long or with another character, and a class other than A, B or C, are answered RANGE (R80). TITLE-NAME and TITLE-PROTECT set
their field of a title, marked for writing; TITLE-PROTECT is refused BUSY for an OPEN title (R85), and RANGE, ahead of that and
of the title's ABSENT, for a value that is neither on nor off (by the model, log entry 40). No recording runs in the clause of
TITLE-PROTECT, so no limit of R27 is met. -/
def Obligations.CatalogueFieldsSet : Prop :=
  (∀ (tag : Nat) (s : State), Taken s → Quiet s → wiping s .catalogue = false → 1 ≤ tag → tag ≤ 1023 →
     ∀ c, cassetteOf s tag = some c →
     (∀ text : Text, text.length ≤ 10 → (∀ x ∈ text, 0x20 ≤ x ∧ x ≤ 0x7E) →
       Replies (.cassetteLabel tag text) s .ok []
         { s with cat := { s.cat with
           cassettes := s.cat.cassettes.map fun d => if d.tag = tag then { d with label := text } else d } } []
         [.cassette c.place]) ∧
     (∀ text : Text, 10 < text.length ∨ (∃ x ∈ text, x < 0x20 ∨ 0x7E < x) → Refuses (.cassetteLabel tag text) s .range) ∧
     (∀ cls, cls ≤ 2 →
       Replies (.cassetteClass tag cls) s .ok []
         { s with cat := { s.cat with
           cassettes := s.cat.cassettes.map fun d => if d.tag = tag then { d with cls := thicknessOf cls } else d } } []
         [.cassette c.place]) ∧
     (∀ cls, 2 < cls → Refuses (.cassetteClass tag cls) s .range)) ∧
  (∀ (tag k : Nat) (s : State), Taken s → Quiet s → wiping s .catalogue = false → 1 ≤ tag → tag ≤ 1023 →
     ∀ c, cassetteOf s tag = some c → ∀ i x, (titlesOf s tag)[k]? = some (i, x) →
     (∀ text : Text, text.length ≤ 12 → (∀ y ∈ text, 0x20 ≤ y ∧ y ≤ 0x7E) →
       Replies (.titleName tag k text) s .ok []
         { s with cat := { s.cat with pool := s.cat.pool.set i (some { x with name := text }) } } [] [.title i]) ∧
     (∀ on, x.isOpen = true → Refuses (.titleProtect tag k (.of on)) s .busy) ∧
     (∀ n j, Refuses (.titleProtect tag j (.other n)) s .range) ∧
     (∀ on, x.isOpen = false → s.mech.mode ≠ .recording →
       Replies (.titleProtect tag k (.of on)) s .ok []
         { s with cat := { s.cat with pool := s.cat.pool.set i (some { x with isProtected := on }) } } [] [.title i]))

/-- CASSETTE-REGISTER creates a record under a tag that no record holds, from 1 to 1023, with no titles and the default class,
in a store place of its own, and the identity becomes ASSERTED with its tag; STATE, BUSY and FULL are answered where R81
says (R81, R73, R60). That STATE comes before BUSY, where R62 speaks of BUSY, is the model's choice of order (log entry 52);
the titles-opened flag is clear then (R81). CASSETTE-ASSIGN names the cassette in
the deck: the identity becomes ASSERTED, and the cassette's last-loaded time is set where another or none was named; STATE
with no load, BUSY during a recording, STATE with a READ identity (R82, R72). -/
def Obligations.CassetteIsNamed : Prop :=
  (∀ s : State, Taken s → Quiet s → wiping s .catalogue = false →
     (s.pos.place = none ∨ s.cue.identity ≠ .none → Refuses .cassetteRegister s .state) ∧
     (s.pos.place.isSome = true → s.cue.identity = .none → s.cat.recording.isSome = true →
       Refuses .cassetteRegister s .busy) ∧
     (s.pos.place.isSome = true → s.cue.identity = .none → s.cat.recording = none → 48 ≤ s.cat.cassettes.length →
       Refuses .cassetteRegister s .full) ∧
     (s.pos.place.isSome = true → s.cue.identity = .none → s.cat.recording = none → s.cat.cassettes.length < 48 →
       s.cue.seek = none → 1 ≤ s.settings.nextTag → s.settings.nextTag ≤ 1023 →
       ∃ t, exec .cassetteRegister s = .next t ∧ ∃ tag place, 1 ≤ tag ∧ tag ≤ 1023 ∧ cassetteOf s tag = none ∧
         place < 48 ∧ (∀ c ∈ s.cat.cassettes, c.place ≠ place) ∧
         cassetteOf t tag = some ⟨tag, [], s.settings.defaultClass, none, s.hold.now, s.hold.now, [], [], place⟩ ∧
         (∀ other, other ≠ tag → cassetteOf t other = cassetteOf s other) ∧
         t.settings.nextTag = (if tag = 1023 then 1 else tag + 1) ∧
         Leaves s (replied .ok [b8 (tag / 256), b8 tag] { s with
           cat := { s.cat with cassettes := t.cat.cassettes }
           settings := { s.settings with nextTag := t.settings.nextTag }
           cue := { s.cue with identity := .asserted tag, titlesOpened := false } }) t [] [.settings, .cassette place])) ∧
  (∀ (tag : Nat) (s : State), Taken s → Quiet s → wiping s .catalogue = false → 1 ≤ tag → tag ≤ 1023 →
     ∀ c, cassetteOf s tag = some c →
     (s.pos.place = none → Refuses (.cassetteAssign tag) s .state) ∧
     (s.pos.place.isSome = true → s.cat.recording.isSome = true → Refuses (.cassetteAssign tag) s .busy) ∧
     (s.pos.place.isSome = true → s.cat.recording = none → (∃ k, s.cue.identity = .read k) →
       Refuses (.cassetteAssign tag) s .state) ∧
     (s.pos.place.isSome = true → s.cat.recording = none → s.cue.identity = .asserted tag →
       Replies (.cassetteAssign tag) s .ok [] s [] []) ∧
     (s.pos.place.isSome = true → s.cat.recording = none →
       s.cue.identity = .none ∨ (∃ k, s.cue.identity = .asserted k ∧ k ≠ tag) → s.cue.seek = none →
       Replies (.cassetteAssign tag) s .ok []
         { s with
           cue := { s.cue with identity := .asserted tag }
           cat := { s.cat with
             cassettes := s.cat.cassettes.map fun d => if d.tag = tag then { d with lastLoaded := s.hold.now } else d } } []
         [.cassette c.place]))

/-- CASSETTE-RETIRE takes a cassette record and its titles out of the catalogue, and the identity that named it becomes NONE;
it is refused BUSY for an OPEN title, PROTECTED for a protected one, LOCKED for a locked one while the lock is not open (R83).
TITLE-RETIRE checks PROTECTED, LOCKED and BUSY in that order; otherwise the title leaves the catalogue by R77, and, with a slot
and no NO-CUE, leaves a dead-mark entry with its start, or with none when it is relative (R86, R77); the clause is for a list
of fewer than 8 dead marks. That CASSETTE-RETIRE leaves the titles-opened flag as it stands where the identity becomes NONE is
the model's choice (log entry 53). -/
def Obligations.CassettesAndTitlesRetire : Prop :=
  (∀ (tag : Nat) (s : State), Taken s → Quiet s → wiping s .catalogue = false → 1 ≤ tag → tag ≤ 1023 →
     ∀ c, cassetteOf s tag = some c →
     ((∃ x ∈ titlesOf s tag, x.2.isOpen = true) → Refuses (.cassetteRetire tag) s .busy) ∧
     ((∀ x ∈ titlesOf s tag, x.2.isOpen = false) → s.cat.recording = none →
       ((∃ x ∈ titlesOf s tag, x.2.isProtected = true) → Refuses (.cassetteRetire tag) s .barred) ∧
       ((∀ x ∈ titlesOf s tag, x.2.isProtected = false) → (∃ x ∈ titlesOf s tag, x.2.locked = true) →
         s.lock.state ≠ .unlocked → Refuses (.cassetteRetire tag) s .locked) ∧
       ((∀ x ∈ titlesOf s tag, x.2.isProtected = false) → (∀ x ∈ titlesOf s tag, x.2.locked = false) ∨
           s.lock.state = .unlocked → s.cue.seek = none →
         ∃ t, exec (.cassetteRetire tag) s = .next t ∧ cassetteOf t tag = none ∧
           (∀ other, other ≠ tag → cassetteOf t other = cassetteOf s other) ∧
           (∀ i, titleAt t i = if i ∈ (titlesOf s tag).map (·.1) then none else titleAt s i) ∧
           Leaves s (replied .ok [] { s with
             cat := { s.cat with cassettes := t.cat.cassettes, pool := t.cat.pool, thisLoad := t.cat.thisLoad }
             cue := { s.cue with identity := if s.cue.identity.tag = some tag then .none else s.cue.identity } }) t []
             ((titlesOf s tag).map (fun x => RecordId.title x.1) ++ [.cassette c.place])))) ∧
  (∀ (tag k : Nat) (s : State), Taken s → Quiet s → wiping s .catalogue = false → 1 ≤ tag → tag ≤ 1023 →
     ∀ c, cassetteOf s tag = some c → ∀ i x, (titlesOf s tag)[k]? = some (i, x) → x.tag = tag →
     (x.isProtected = true → Refuses (.titleRetire tag k) s .barred) ∧
     (x.isProtected = false → x.locked = true → s.lock.state ≠ .unlocked → Refuses (.titleRetire tag k) s .locked) ∧
     (x.isProtected = false → x.locked = false ∨ s.lock.state = .unlocked → x.isOpen = true →
       Refuses (.titleRetire tag k) s .busy) ∧
     (x.isProtected = false → x.locked = false ∨ s.lock.state = .unlocked → x.isOpen = false → s.mech.mode ≠ .recording →
       s.cue.seek = none → c.dead.length < 8 →
       ∃ t, exec (.titleRetire tag k) s = .next t ∧ titleAt t i = none ∧ (∀ j, j ≠ i → titleAt t j = titleAt s j) ∧
         (∃ d, cassetteOf t tag = some d ∧ d.titles = c.titles.filter (· != i) ∧ d.label = c.label ∧ d.cls = c.cls ∧
         (∀ n, x.slot = some n → x.noCue = false → d.dead = c.dead ++ [⟨n, if x.anchored then some x.start else none⟩]) ∧
         (x.slot = none ∨ x.noCue = true → d.dead = c.dead)) ∧
         (∀ other, other ≠ tag → cassetteOf t other = cassetteOf s other) ∧ t.settings = s.settings ∧ t.tun = s.tun ∧
         t.mech = s.mech ∧ t.link.buffer = .ready ⟨.ok, []⟩ ∧ Awaits (.title i) t ∧ Awaits (.cassette c.place) t ∧ Fresh t))

/-! ### The tuner (chapters 5 and 6) -/

/-- PRESET-READ answers with the record in the layout of 11.8, every bit of its flag byte among it, and changes nothing (R106).
PRESET-WRITE writes a preset with all its fields but the locked flag, marked for writing (R106). Where it is the current
source the working tuning follows: a change of band, base word or AFT enable restarts AFT with offset 0, another keeps the
offset, the count and the AFT state (R101). -/
def Obligations.PresetReadAndWritten : Prop :=
  (∀ (n : Nat) (s : State), Taken s → Quiet s → wiping s .presets = false → 1 ≤ n → n ≤ 99 →
     ∀ p, presetAt s n = some p →
     Replies (.presetRead n) s .ok (presetData n p) s [] [] ∧
     (presetData n p)[0]? = some (b8 n) ∧
     (presetData n p)[1]? = some (b8 ((if p.used then 1 else 0) + (match p.band with
       | .low => 0
       | .high => 2
       | .uhf => 4) + (if p.aft then 8 else 0) + (if p.skip then 16 else 0) + (if p.locked then 32 else 0) + 64 * p.sound)) ∧
     ((presetData n p).drop 2).take 2 = be16 p.base ∧
     (presetData n p)[4]? = some (b8 (p.fine % 256).toNat) ∧ (presetData n p).drop 5 = b8 p.name.length :: p.name) ∧
  (∀ (n : Nat) (p : PresetParam) (b : Band) (s : State), Taken s → Quiet s → wiping s .presets = false →
     s.hold.power ≠ .timerStandby → 1 ≤ n → n ≤ 99 → bandCode b = p.band → p.base ≤ 16383 → ∀ old, presetAt s n = some old →
     -32 ≤ p.fine → p.fine ≤ 31 → p.sound ≤ 3 → p.name.length ≤ 5 → (∀ y ∈ p.name, 0x20 ≤ y ∧ y ≤ 0x7E) →
     old.locked = false ∨ s.lock.state = .unlocked →
     (s.tun.source ≠ n →
       Replies (.presetWrite n p) s .ok []
         { s with tun := { s.tun with
           presets := s.tun.presets.set (n - 1) ⟨true, b, p.base, p.fine, p.aft, p.sound, p.skip, old.locked, p.name⟩ } }
         [] [.preset n]) ∧
     (s.tun.source = n → s.tun.owner = .view → old.band = b ∧ old.base = p.base ∧ old.aft = p.aft →
       Replies (.presetWrite n p) s .ok []
         { s with tun := { s.tun with
           presets := s.tun.presets.set (n - 1) ⟨true, b, p.base, p.fine, p.aft, p.sound, p.skip, old.locked, p.name⟩
           working := ⟨b, p.base, p.fine, p.aft, p.sound, s.tun.working.offset⟩ } } [] [.preset n]) ∧
     (s.tun.source = n → s.tun.owner = .view → ¬(old.band = b ∧ old.base = p.base ∧ old.aft = p.aft) →
       Replies (.presetWrite n p) s .ok []
         { s with tun := { s.tun with
           presets := s.tun.presets.set (n - 1) ⟨true, b, p.base, p.fine, p.aft, p.sound, p.skip, old.locked, p.name⟩
           working := ⟨b, p.base, p.fine, p.aft, p.sound, 0⟩, aftCount := 0
           aft := if p.aft then .settling else .off } } [] [.preset n]))

/-- PRESET-STORE-CURRENT stores the working tuning in a preset, its word as base word with fine 0, keeping the locked flag and
the name of a used preset; the preset becomes the current source and the last-viewed one (R107). FINE moves the fine
correction of the current preset, clamped to -32 and +31, the AFT offset kept; AFT-STORE folds the AFT offset into its base
word, clamped to 0 and 16,383, the offset becoming 0 and the AFT state and count kept (R110, R114). -/
def Obligations.CurrentPresetKept : Prop :=
  (∀ (n : Nat) (s : State), Taken s → Quiet s → wiping s .presets = false → s.hold.power = .on →
     isLine s.tun.source = false → s.tun.owner = .view → 1 ≤ n → n ≤ 99 → ∀ old, presetAt s n = some old →
     old.locked = false ∨ s.lock.state = .unlocked → s.tun.working.aft = true →
     Replies (.presetStoreCurrent n) s .ok []
       { s with
         tun := { s.tun with
           presets := s.tun.presets.set (n - 1) ⟨true, s.tun.working.band, s.tun.working.word.toNat, 0, true,
             s.tun.working.sound, false, old.locked, if old.used then old.name else []⟩
           source := n
           working := ⟨s.tun.working.band, s.tun.working.word.toNat, 0, true, s.tun.working.sound, 0⟩ }
         settings := { s.settings with lastViewed := n } } [] [.preset n, .settings] ∧
     s.tun.working.word = clampI 0 16383 (s.tun.working.base + 2 * s.tun.working.fine + s.tun.working.offset)) ∧
  (∀ s : State, Taken s → Quiet s → wiping s .presets = false → s.hold.power = .on → s.tun.owner = .view →
     ∀ n, n = s.tun.source → 1 ≤ n → n ≤ 99 → ∀ p, presetAt s n = some p →
     p.locked = false ∨ s.lock.state = .unlocked →
     (∀ delta, clampI (-32) 31 (p.fine + delta) ≠ p.fine →
       Replies (.fine delta) s .ok []
         { s with tun := { s.tun with
           presets := s.tun.presets.set (n - 1) { p with fine := clampI (-32) 31 (p.fine + delta) }
           working := ⟨p.band, p.base, clampI (-32) 31 (p.fine + delta), p.aft, p.sound, s.tun.working.offset⟩ } } []
         [.preset n]) ∧
     (∀ delta, clampI (-32) 31 (p.fine + delta) = p.fine → Replies (.fine delta) s .ok [] s [] []) ∧
     (s.tun.working.offset ≠ 0 →
       Replies .aftStore s .ok []
         { s with tun := { s.tun with
           presets := s.tun.presets.set (n - 1) { p with base := (clampI 0 16383 (p.base + s.tun.working.offset)).toNat }
           working := { s.tun.working with base := (clampI 0 16383 (p.base + s.tun.working.offset)).toNat, offset := 0 } } } []
         [.preset n]) ∧
     (s.tun.working.offset = 0 → Replies .aftStore s .ok [] s [] []))

/-- PRESET-SWAP exchanges two presets with everything that names them: the programmes, the edit buffer, the EXT source, the
last-viewed source, the current and the saved source; the working tuning stays as it is (R108). PRESET-CLEAR makes a preset
EMPTY with its factory values; where it was the current source the source becomes 0 with the working tuning kept; it is
refused REFERENCED while a programme or the EXT source names it (R109). -/
def Obligations.PresetsSwappedAndCleared : Prop :=
  (∀ (a b : Nat) (s : State), Taken s → Quiet s → wiping s .presets = false → wiping s .programmes = false →
     s.hold.power ≠ .timerStandby → 1 ≤ a → a ≤ 99 → 1 ≤ b → b ≤ 99 → a ≠ b →
     ∀ p, presetAt s a = some p → ∀ q, presetAt s b = some q →
     (p.locked = false ∧ q.locked = false) ∨ s.lock.state = .unlocked → s.tun.owner = .view → s.tim.programmes.length = 16 →
     Replies (.presetSwap a b) s .ok []
       { s with
         tun := { s.tun with
           presets := (s.tun.presets.set (a - 1) q).set (b - 1) p
           source := swapNumber a b s.tun.source, saved := s.tun.saved.map (swapNumber a b) }
         tim := { s.tim with
           programmes := s.tim.programmes.map fun r => { r with source := swapNumber a b r.source }
           edit := s.tim.edit.map fun e => { e with source := swapNumber a b e.source } }
         settings := { s.settings with
           extSource := swapNumber a b s.settings.extSource, lastViewed := swapNumber a b s.settings.lastViewed } } []
       ([.preset a, .preset b] ++
         ((List.range 16).filter fun k => ((progAt s k).map fun r => r.source == a || r.source == b).getD false).map .programme ++
         if s.settings.extSource = a ∨ s.settings.extSource = b ∨ s.settings.lastViewed = a ∨ s.settings.lastViewed = b then
           [.settings] else [])) ∧
  (∀ (n : Nat) (s : State), Taken s → Quiet s → wiping s .presets = false → wiping s .programmes = false →
     s.hold.power ≠ .timerStandby → 1 ≤ n → n ≤ 99 → ∀ old, presetAt s n = some old →
     old.locked = false ∨ s.lock.state = .unlocked →
     ((∃ q ∈ s.tim.programmes, q.state ≠ .empty ∧ q.source = n) ∨ s.settings.extSource = n →
       Refuses (.presetClear n) s .referenced) ∧
     ((∀ q ∈ s.tim.programmes, q.state = .empty ∨ q.source ≠ n) → s.settings.extSource ≠ n →
       s.tun.source ≠ n ∨ s.tun.owner = .view → old.used = true →
       Replies (.presetClear n) s .ok []
         { s with tun := { s.tun with
           presets := s.tun.presets.set (n - 1) ⟨false, .low, 0, 0, true, 0, false, false, []⟩
           source := if s.tun.source = n then 0 else s.tun.source } } [] [.preset n]) ∧
     ((∀ q ∈ s.tim.programmes, q.state = .empty ∨ q.source ≠ n) → s.settings.extSource ≠ n →
       s.tun.source ≠ n ∨ s.tun.owner = .view → old.used = false → Replies (.presetClear n) s .ok [] s [] []))

/-- SCAN starts a station search (R120): the tuner's owner is SCAN with the source saved, the current source is 0, AFT is OFF;
STORE begins at word 0 of LOW, NEXT eight words above the present word with the clearing flag set. A STORE search with no
EMPTY preset left is answered FULL. SCAN-STOP ends the search STOPPED, the detail of the notice being open (log entry 3):
the tuner goes back to VIEW and the saved source is tuned again; with no search running it is refused STATE (R125, R127,
R117). -/
def Obligations.SearchStartsAndStops : Prop :=
  (∀ (first : Nat) (s : State), Taken s → Quiet s → wiping s .presets = false → s.hold.power = .on → s.tun.owner = .view →
     1 ≤ first → first ≤ 99 →
     ((∀ n p, first ≤ n → presetAt s n = some p → p.used = true) → Refuses (.scan 1 first) s .full) ∧
     (∀ n, first ≤ n → ∀ p, presetAt s n = some p → p.used = false →
       Replies (.scan 1 first) s .ok []
         { s with tun := { s.tun with
           owner := .scan, saved := some s.tun.source, source := 0, aft := .off, aftCount := 0
           working := ⟨.low, 0, 0, true, s.settings.defaultSound, 0⟩
           scan := some ⟨.store, first, .sweep, .low, 0, false, s.tun.working⟩ } } [] []) ∧
     (s.tun.working.word + 8 ≤ 16383 →
       Replies (.scan 0 first) s .ok []
         { s with tun := { s.tun with
           owner := .scan, saved := some s.tun.source, source := 0, aft := .off, aftCount := 0
           working := ⟨s.tun.working.band, s.tun.working.word.toNat + 8, 0, true, s.settings.defaultSound, 0⟩
           scan := some ⟨.next, first, .sweep, s.tun.working.band, s.tun.working.word.toNat + 8, true, s.tun.working⟩ } } [] [])) ∧
  (∀ s : State, Taken s → Quiet s →
     (s.tun.scan = none → Refuses .scanStop s .state) ∧
     (s.tun.scan.isSome = true → ∀ n, s.tun.saved = some n → ∀ p, presetAt s n = some p → p.used = true → n ≤ 99 →
       Replies .scanStop s .ok []
         { s with tun := { s.tun with
           owner := .view, saved := none, scan := none, source := n, working := ⟨p.band, p.base, p.fine, p.aft, p.sound, 0⟩
           aftCount := 0, aft := if p.aft then .settling else .off } } [(.tuner, scanStoppedReason, (s.openBits 0).toNat)] []))

/-- An AFT sample (R112, R113): without sync the state is NO-SIGNAL and the count 0; within w of the middle it counts, and the
eighth in a row locks; below the window the offset goes up by one word, above it down by one, and at 96 words either way it
is held with state LIMIT, AFT-LIMIT being raised as that state is reached and not by a further push, its detail open (log
entry 3). While AFT does not run nothing happens. A search at work: in SWEEP a step without sync goes 8 words up and clears
the clearing flag, a step with sync while clearing goes 8 words up, and otherwise begins a capture (R121, R122); in CAPTURE
a sample inside the window counts, the 64th without a lock and a sample that carries the offset to 64 words failing the
capture, the sweep going on 8 words above its start with the clearing flag set (R122). The eighth of a NEXT search stops it
FOUND on the word (R123; detail: log entry 3); of a STORE search it passes over a duplicate, a USED preset of the band
within 24 words, and else fills the lowest EMPTY preset from the first, raising STORED (R124). That the word found
is the converter's word, which is clamped to 0 and 16,383 where the capture start and the offset leave that range, is the
model's choice (log entry 60). A sample for the other phase, or with no search, does nothing, by the model (log entry 16). -/
def Obligations.TunerSamples : Prop :=
  (∀ (sync : Bool) (d : Nat) (s : State), s.mainPower = true → Quiet s →
     ∀ left : Tun → State, left = (fun t => { s with tun := t }) →
     (aftRuns s.tun = false → Becomes (.aftSample sync d) s s [] []) ∧
     (aftRuns s.tun = true → sync = false →
       Becomes (.aftSample sync d) s (left { s.tun with aft := .noSignal, aftCount := 0 }) [] []) ∧
     (aftRuns s.tun = true → sync = true →
       (d ≤ 128 + s.settings.aftWindow → 128 ≤ d + s.settings.aftWindow → s.tun.aftCount < 7 →
         Becomes (.aftSample sync d) s (left { s.tun with
           aftCount := s.tun.aftCount + 1, aft := if s.tun.aft = .noSignal then .settling else s.tun.aft }) [] []) ∧
       (d ≤ 128 + s.settings.aftWindow → 128 ≤ d + s.settings.aftWindow → 7 ≤ s.tun.aftCount →
         Becomes (.aftSample sync d) s (left { s.tun with aftCount := 8, aft := .locked }) [] []) ∧
       (128 + s.settings.aftWindow < d → -95 < s.tun.working.offset → s.tun.working.offset ≤ 96 →
         Becomes (.aftSample sync d) s (left { s.tun with
           aftCount := 0, aft := .settling, working := { s.tun.working with offset := s.tun.working.offset - 1 } }) [] []) ∧
       (d + s.settings.aftWindow < 128 → s.tun.working.offset < 95 → -96 ≤ s.tun.working.offset →
         Becomes (.aftSample sync d) s (left { s.tun with
           aftCount := 0, aft := .settling, working := { s.tun.working with offset := s.tun.working.offset + 1 } }) [] []) ∧
       (d + s.settings.aftWindow < 128 → 95 ≤ s.tun.working.offset →
         Becomes (.aftSample sync d) s (left { s.tun with
           aftCount := 0, aft := .limit, working := { s.tun.working with offset := 96 } })
           (if s.tun.aft = .limit then [] else [(.tuner, aftLimitReason, (s.openBits 0).toNat)]) []) ∧
       (128 + s.settings.aftWindow < d → s.tun.working.offset ≤ -95 →
         Becomes (.aftSample sync d) s (left { s.tun with
           aftCount := 0, aft := .limit, working := { s.tun.working with offset := -96 } })
           (if s.tun.aft = .limit then [] else [(.tuner, aftLimitReason, (s.openBits 0).toNat)]) []))) ∧
  (∀ s : State, s.mainPower = true → Quiet s →
     (s.tun.scan = none → ∀ sync d, Becomes (.searchSweepStep sync) s s [] [] ∧
       Becomes (.searchCaptureSample sync d) s s [] []) ∧
     ∀ sc, s.tun.scan = some sc →
     ∀ swept : Nat → Bool → List Preset → State, swept = (fun word clearing presets => { s with tun := { s.tun with
       presets := presets, aft := .off, aftCount := 0, working := ⟨sc.band, word, 0, true, s.settings.defaultSound, 0⟩
       scan := some { sc with phase := .sweep, word := word, clearing := clearing } } }) →
     (sc.phase = .sweep → sc.word + 8 ≤ 16383 →
       Becomes (.searchSweepStep false) s (swept (sc.word + 8) false s.tun.presets) [] []) ∧
     (sc.phase = .sweep → sc.clearing = true → sc.word + 8 ≤ 16383 →
       Becomes (.searchSweepStep true) s (swept (sc.word + 8) true s.tun.presets) [] []) ∧
     (sc.phase = .sweep → sc.clearing = false →
       Becomes (.searchSweepStep true) s { s with tun := { s.tun with
         aft := .settling, aftCount := 0, working := ⟨sc.band, sc.word, 0, true, s.settings.defaultSound, 0⟩
         scan := some { sc with phase := .capture sc.word 0 } } } [] []) ∧
     (∀ sync d, sc.phase = .sweep → Becomes (.searchCaptureSample sync d) s s [] []) ∧
     (∀ start k, sc.phase = .capture start k →
       (∀ sync, Becomes (.searchSweepStep sync) s s [] []) ∧
       (∀ d, k < 63 → d ≤ 128 + s.settings.aftWindow → 128 ≤ d + s.settings.aftWindow → s.tun.aftCount < 7 →
         s.tun.aft = .settling →
         Becomes (.searchCaptureSample true d) s { s with tun := { s.tun with
           aftCount := s.tun.aftCount + 1, scan := some { sc with phase := .capture start (k + 1) } } } [] []) ∧
       (63 ≤ k → start + 8 ≤ 16383 →
         Becomes (.searchCaptureSample false 0) s (swept (start + 8) true s.tun.presets) [] []) ∧
       (∀ d, d + s.settings.aftWindow < 128 → 63 ≤ s.tun.working.offset → start + 8 ≤ 16383 →
         Becomes (.searchCaptureSample true d) s (swept (start + 8) true s.tun.presets) [] []) ∧
       (∀ d, 128 + s.settings.aftWindow < d → s.tun.working.offset ≤ -63 → start + 8 ≤ 16383 →
         Becomes (.searchCaptureSample true d) s (swept (start + 8) true s.tun.presets) [] []) ∧
       (∀ d, sc.mode = .next → d ≤ 128 + s.settings.aftWindow → 128 ≤ d + s.settings.aftWindow → s.tun.aftCount = 7 →
         Becomes (.searchCaptureSample true d) s { s with tun := { s.tun with
           owner := .view, saved := none, scan := none, aftCount := 8, aft := .locked
           working := ⟨sc.band, s.tun.working.word.toNat, 0, true, s.settings.defaultSound, 0⟩ } }
           [(.tuner, scanFoundReason, (s.openBits 0).toNat)] []) ∧
       (∀ d w, w = s.tun.working.word.toNat → sc.mode = .store → d ≤ 128 + s.settings.aftWindow →
         128 ≤ d + s.settings.aftWindow → s.tun.aftCount = 7 → max start w + 8 ≤ 16383 →
         ∀ twin : Preset → Bool, twin = (fun p => p.used && p.band == sc.band &&
           decide (apart (clampI 0 16383 (p.base + 2 * p.fine)) w ≤ 24)) →
         (s.tun.presets.any twin = true →
           Becomes (.searchCaptureSample true d) s (swept (max start w + 8) true s.tun.presets) [] []) ∧
         (∀ n, s.tun.presets.any twin = false → 1 ≤ sc.first → sc.first ≤ n → (presetAt s n).any (fun p => !p.used) = true →
           (∀ j, sc.first ≤ j → j < n → (presetAt s j).any (fun p => !p.used) = false) →
           Becomes (.searchCaptureSample true d) s
             (swept (max start w + 8) true
               (s.tun.presets.set (n - 1) ⟨true, sc.band, w, 0, true, s.settings.defaultSound, false, false, []⟩))
             [(.tuner, storedReason, n)] [.preset n]))))

/-! ### The clock (chapter 7) -/

/-- CLOCK-SET stages its change and is answered ACCEPTED, the clock itself unchanged; RANGE, STATE in TIMER-STANDBY and BUSY
while a programme runs are answered in that order (R136). CLOCK-SHIFT stages an hour forward or back, checked against the
time of the next second event (R137); CLOCK-TRIM writes the trim, clamped to -255 and +255 (R135). -/
def Obligations.ClockRequests : Prop :=
  (∀ (day h m sec : Nat) (s : State), Taken s → Quiet s →
     (36524 < day ∨ 23 < h ∨ 59 < m ∨ 59 < sec → Refuses (.clockSet day h m sec) s .range) ∧
     (day ≤ 36524 → h ≤ 23 → m ≤ 59 → sec ≤ 59 →
       (s.hold.power = .timerStandby → Refuses (.clockSet day h m sec) s .state) ∧
       (s.hold.power ≠ .timerStandby → s.tim.run.isSome = true → Refuses (.clockSet day h m sec) s .busy) ∧
       (s.hold.power ≠ .timerStandby → s.tim.run = none →
         Replies (.clockSet day h m sec) s .accepted []
           { s with hold := { s.hold with staged := .set day (h * 3600 + m * 60 + sec) } } [] []))) ∧
  (∀ s : State, Taken s → Quiet s →
     (∀ dir, 1 < dir → Refuses (.clockShift dir) s .range) ∧
     (∀ dir, dir ≤ 1 → s.hold.valid = false → Refuses (.clockShift dir) s .state) ∧
     (s.hold.valid = true → s.hold.day < 36524 → s.hold.seconds < 86400 →
       Replies (.clockShift 0) s .accepted [] { s with hold := { s.hold with staged := .shift true } } [] []) ∧
     (s.hold.valid = true → s.hold.day = 36524 → s.hold.seconds < 86400 → 82799 ≤ s.hold.seconds →
       Refuses (.clockShift 0) s .range) ∧
     (s.hold.valid = true → 0 < s.hold.day → s.hold.day < 36524 → s.hold.seconds < 86400 →
       Replies (.clockShift 1) s .accepted [] { s with hold := { s.hold with staged := .shift false } } [] []) ∧
     (s.hold.valid = true → s.hold.day = 0 → s.hold.seconds < 3599 → Refuses (.clockShift 1) s .range) ∧
     (∀ c, Replies (.clockTrim c) s .ok []
       { s with hold := { s.hold with trim := if c < -255 then -255 else if 255 < c then 255 else c } } [] []))

/-- A second event counts the clock up (R131): the seconds of day go up by 1 and roll over into the day, day 36,524 being
repeated with the valid flag off (R132); the count returns to 0 and the period second goes up by 1, to 0 after 599, the trim
being taken for the last second as it begins (R130). The statement is for a machine with nothing staged, in which no
programme waits or runs; the hold domain counts the same with main power absent. A second event with a staged change (R139):
a SET takes the place of counting up and makes the clock valid, but is dropped, the clock counting up, in TIMER-STANDBY and
while a programme is in PREROLL or RECORDING; a SHIFT moves the counted-up time by the hour and turns the DST flag over. The
clauses are for a machine in which no programme waits, and none runs but in the drop. An applied SET or SHIFT has each
programme in WAITING or HELD examined again against the new time (R148): one whose stop has passed is missed; one whose start
lies ahead is WAITING with its next occurrence worked out afresh, or DONE without one; one whose run has begun is kept, and is
HELD by the evaluation that follows (R167). The clause is for the one programme that waits, on a deck that is ON with a mode in
which the transport is not free, where the next occurrence found starts after the new time. -/
def Obligations.SecondEvents : Prop :=
  (∀ s : State, s.hold.intact = true → s.hold.staged = .none → s.tim.run = none →
     (∀ p ∈ s.tim.programmes, p.state ≠ .waiting ∧ p.state ≠ .held) →
     ∀ h, h = { s.hold with
       count := 0
       periodSecond := if s.hold.periodSecond < 599 then s.hold.periodSecond + 1 else 0
       secondTrim := if s.hold.periodSecond = 598 then s.hold.trim else s.hold.secondTrim } →
     (s.mainPower = true →
       (s.hold.seconds < 86399 → Becomes .secondEvent s { s with hold := { h with seconds := s.hold.seconds + 1 } } [] []) ∧
       (s.hold.seconds = 86399 → s.hold.day < 36524 →
         Becomes .secondEvent s { s with hold := { h with seconds := 0, day := s.hold.day + 1 } } [] []) ∧
       (s.hold.seconds = 86399 → s.hold.day = 36524 → s.hold.valid = true →
         Becomes .secondEvent s { s with hold := { h with seconds := 0, valid := false } } [(.clock, rangeEndReason, 0)] [])) ∧
     (s.mainPower = false → s.agenda = [] → s.hold.seconds < 86399 →
       exec .secondEvent s = .next { s with hold := { h with seconds := s.hold.seconds + 1 } })) ∧
  (∀ s : State, s.hold.intact = true → s.mainPower = true →
     (∀ p ∈ s.tim.programmes, p.state ≠ .waiting ∧ p.state ≠ .held) → s.hold.periodSecond < 598 →
     ∀ base, base = { s.hold with count := 0, periodSecond := s.hold.periodSecond + 1, staged := .none } →
     (s.tim.run = none → s.tim.ext = .none →
       (∀ day sec, s.hold.staged = .set day sec → s.hold.power ≠ .timerStandby →
         Becomes .secondEvent s { s with hold := { base with day := day, seconds := sec, valid := true } }
           [(.clock, clockSetReason, 0)] []) ∧
       (∀ day sec, s.hold.staged = .set day sec → s.hold.power = .timerStandby → s.hold.seconds < 86399 →
         Becomes .secondEvent s { s with hold := { base with seconds := s.hold.seconds + 1 } }
           [(.clock, setDroppedReason, 0)] []) ∧
       (s.hold.staged = .shift true → s.hold.power ≠ .timerStandby → s.hold.seconds < 82799 →
         Becomes .secondEvent s { s with hold := { base with seconds := s.hold.seconds + 3601, dst := !s.hold.dst } }
           [(.clock, clockShiftReason, 0)] []) ∧
       (s.hold.staged = .shift false → s.hold.power ≠ .timerStandby → 0 < s.hold.day → s.hold.seconds < 3599 →
         Becomes .secondEvent s
           { s with hold := { base with
             seconds := s.hold.seconds + 82801, day := s.hold.day - 1, dst := !s.hold.dst } }
           [(.clock, clockShiftReason, 0)] [])) ∧
     (∀ day sec, s.hold.staged = .set day sec → ∀ run, s.tim.run = some run → s.hold.seconds < 86399 →
       ∀ o, runNext s = some o → ∀ now, now = s.hold.day * 1440 + (s.hold.seconds + 1) / 60 → now < o.stop →
       run.phase = .recording ∨ (run.phase = .placed ∧ now < o.start) ∨
         (run.phase = .placing ∧ (s.mech.target.isSome = true ∨ s.cue.seek.isSome = true)) →
       Becomes .secondEvent s { s with hold := { base with seconds := s.hold.seconds + 1 } }
         [(.clock, setDroppedReason, 0)] [])) ∧
  (∀ (slot : Nat) (s : State), s.hold.intact = true → s.mainPower = true → s.hold.power = .on → s.tim.run = none →
     s.tim.ext = .none → s.mech.mode ≠ .empty → s.mech.mode ≠ .halted → s.mech.mode ≠ .ready → s.hold.periodSecond < 598 →
     ∀ p, progAt s slot = some p → p.waits = true → (∀ k, k ≠ slot → ∀ q, progAt s k = some q → q.waits = false) →
     ∀ o, p.next = some o →
     ∀ base, base = { s.hold with count := 0, periodSecond := s.hold.periodSecond + 1, staged := .none } →
     ∀ h note, (∃ day sec, s.hold.staged = .set day sec ∧ h = { base with day := day, seconds := sec, valid := true } ∧
         note = clockSetReason) ∨
       (s.hold.staged = .shift true ∧ s.hold.valid = true ∧ s.hold.seconds < 82799 ∧ note = clockShiftReason ∧
         h = { base with seconds := s.hold.seconds + 3601, dst := !s.hold.dst }) ∨
       (s.hold.staged = .shift false ∧ s.hold.valid = true ∧ 3599 ≤ s.hold.seconds ∧ s.hold.seconds < 86399 ∧
         note = clockShiftReason ∧ h = { base with seconds := s.hold.seconds - 3599, dst := !s.hold.dst }) →
     ∀ now, now = h.day * 1440 + h.seconds / 60 →
     ∀ left : Programme → State,
       left = (fun q => { s with hold := h, tim := { s.tim with programmes := s.tim.programmes.set slot q } }) →
     (o.stop ≤ now → ∀ q, q = Programme.afterRun { p with
         outcome := ⟨.missed, ⟨false, false, false⟩, some o⟩, lastDay := some (o.start / 1440) } h →
       (∀ w, q.next = some w → now < w.start) →
       Becomes .secondEvent s (left q)
         [(.clock, note, 0), (.timer, missedReason, slot * 16 + (s.openBits 0).toNat % 16)] [.programme slot]) ∧
     (now < o.start → ∀ next, next = p.nextOccurrence h.day now → (∀ w, next = some w → now < w.start) →
       Becomes .secondEvent s (left { p with next := next, state := if next.isSome then .waiting else .done })
         [(.clock, note, 0)] [.programme slot]) ∧
     (o.start ≤ now → now < o.stop →
       (p.state = .held → Becomes .secondEvent s { s with hold := h } [(.clock, note, 0)] []) ∧
       (p.state = .waiting → Becomes .secondEvent s (left { p with state := .held })
         [(.clock, note, 0), (.timer, heldReason, slot * 16 + (s.openBits 0).toNat % 16)] [.programme slot])))

/-! ### Programmes and deck power (chapters 8 and 9) -/

/-- The edit buffer (R149 to R151): EDIT-OPEN opens it with a copy of the slot's editable fields, of an EMPTY slot with the
source that a PRESET-SWAP left there (by the model, log entry 65); EDIT-OPEN(NEW) opens it with fresh values on the lowest
EMPTY slot, with none on the DONE slot whose outcome has the lowest stop index (one without any lowest, the lowest slot
among equals), and is answered FULL with neither; EDIT-SET gives any of the nine fields a value in its range, and is
answered RANGE for another value or field; EDIT-DISCARD closes it. With the buffer open EDIT-OPEN, and with it closed
EDIT-SET and EDIT-DISCARD, are answered STATE. PROGRAMME-READ answers with the record (R144), of an EMPTY slot with the
source that a PRESET-SWAP left there (log entry 65); PROGRAMME-CLEAR makes a slot that does not run EMPTY with its factory
values (R156); PROGRAMME-ENABLE makes a DONE or DISABLED programme WAITING with its next occurrence, its last day and
outcome kept (R155), and both mark the programme for writing; an ENABLE of one WAITING or HELD changes and marks nothing.
The bytes of a programme's record, with which PROGRAMME-READ answers, and of the edit buffer, with which EDIT-OPEN answers
(R144, R149, 11.8); the bits that 11.8 assigns nothing to are open (log entry 3). -/
def Obligations.ProgrammeRequests : Prop :=
  (∀ s : State, Taken s → Quiet s → wiping s .programmes = false →
     ∀ opened : Edit → State, opened = (fun e => { s with tim := { s.tim with edit := some e } }) →
     (∀ slot, slot < 16 → s.hold.power ≠ .timerStandby → s.tim.edit = none → ∀ p, progAt s slot = some p →
       ∀ d, d = ⟨slot, p.state != .disabled, p.kind, p.date, p.start, p.stop, p.source, p.speed, p.afterLast, p.target⟩ →
       Replies (.editOpen slot) s .ok (editData s d) (opened d) [] []) ∧
     (s.hold.power ≠ .timerStandby → s.tim.edit = none →
       ∀ fresh : Nat → Edit, fresh = (fun slot => ⟨slot, true, .once, s.hold.day, 0, 0, s.settings.lastViewed,
         if s.settings.recordSpeed = .std then .std else .long, false, 0⟩) →
       (∀ slot, (∀ k, k < slot → ∀ q : Programme, progAt s k = some q → q.state ≠ .empty) → ∀ p, progAt s slot = some p →
         p.state = .empty → Replies .editOpenNew s .ok (editData s (fresh slot)) (opened (fresh slot)) [] []) ∧
       ((∀ q ∈ s.tim.programmes, q.state ≠ .empty) →
         ∀ rank : Programme → Nat, rank = (fun q => match q.outcome.span with
           | some o => o.stop + 1
           | none => 0) →
         (∀ slot, ∀ p, progAt s slot = some p → p.state = .done →
           (∀ k, k < s.tim.programmes.length → ∀ q, progAt s k = some q → q.state = .done → k ≠ slot →
             rank p < rank q ∨ (rank p = rank q ∧ slot < k)) →
           Replies .editOpenNew s .ok (editData s (fresh slot)) (opened (fresh slot)) [] []) ∧
         ((∀ q ∈ s.tim.programmes, q.state ≠ .done) → Refuses .editOpenNew s .full))) ∧
     (∀ slot, slot < 16 → s.tim.edit.isSome = true → Refuses (.editOpen slot) s .state ∧ Refuses .editOpenNew s .state) ∧
     (∀ e, s.tim.edit = some e →
       (∀ v, (v ≤ 1 → Replies (.editSet 0 v) s .ok [] (opened { e with enable := v == 1 }) [] []) ∧
         (v ≤ 3 → Replies (.editSet 1 v) s .ok []
           (opened { e with kind := if v = 0 then .once else if v = 1 then .daily else if v = 2 then .weekdays else .weekly }) [] []) ∧
         (v ≤ 36524 → Replies (.editSet 2 v) s .ok [] (opened { e with date := v }) [] []) ∧
         (v ≤ 1439 → Replies (.editSet 3 v) s .ok [] (opened { e with start := v }) [] [] ∧
           Replies (.editSet 4 v) s .ok [] (opened { e with stop := v }) [] []) ∧
         (isSource v = true → Replies (.editSet 5 v) s .ok [] (opened { e with source := v }) [] []) ∧
         (v ≤ 2 → Replies (.editSet 6 v) s .ok []
           (opened { e with speed := if v = 0 then .std else if v = 1 then .long else .fit }) [] []) ∧
         (v ≤ 1 → Replies (.editSet 7 v) s .ok [] (opened { e with afterLast := v == 1 }) [] []) ∧
         (v ≤ 1023 → Replies (.editSet 8 v) s .ok [] (opened { e with target := v }) [] []) ∧
         (1 < v → Refuses (.editSet 0 v) s .range ∧ Refuses (.editSet 7 v) s .range) ∧
         (2 < v → Refuses (.editSet 6 v) s .range) ∧ (3 < v → Refuses (.editSet 1 v) s .range) ∧
         (36524 < v → Refuses (.editSet 2 v) s .range) ∧
         (1439 < v → Refuses (.editSet 3 v) s .range ∧ Refuses (.editSet 4 v) s .range) ∧
         (isSource v = false → Refuses (.editSet 5 v) s .range) ∧ (1023 < v → Refuses (.editSet 8 v) s .range) ∧
         (∀ field, 8 < field → Refuses (.editSet field v) s .range)) ∧
       Replies .editDiscard s .ok [] { s with tim := { s.tim with edit := none } } [] []) ∧
     (s.tim.edit = none → (∀ field v, Refuses (.editSet field v) s .state) ∧ Refuses .editDiscard s .state)) ∧
  (∀ (slot : Nat) (s : State), Taken s → Quiet s → wiping s .programmes = false → slot < 16 →
     ∀ p, progAt s slot = some p →
     Replies (.programmeRead slot) s .ok (programmeData s slot p) s [] [] ∧
     (s.hold.power ≠ .timerStandby →
       (p.state = .preroll ∨ p.state = .recording →
         Refuses (.programmeClear slot) s .busy ∧ Refuses (.programmeEnable slot) s .busy) ∧
       (p.state ≠ .preroll → p.state ≠ .recording →
         Replies (.programmeClear slot) s .ok []
           { s with tim := { s.tim with
             programmes := s.tim.programmes.set slot
               (Programme.mk .empty .once 0 0 0 1 .std false 0 none none ⟨.none, ⟨false, false, false⟩, none⟩) } } []
           [.programme slot]) ∧
       (p.state = .empty → Refuses (.programmeEnable slot) s .absent) ∧
       (p.state = .waiting ∨ p.state = .held → Replies (.programmeEnable slot) s .ok [] s [] []) ∧
       (p.state = .done ∨ p.state = .disabled → presetEmpty s p.source = false →
         p.target = 0 ∨ (cassetteOf s p.target).isSome = true → ∀ o, p.nextOccurrence s.hold.day s.hold.now = some o →
         Replies (.programmeEnable slot) s .ok []
           { s with tim := { s.tim with
             programmes := s.tim.programmes.set slot { p with state := .waiting, next := some o } } } [] [.programme slot]))) ∧
  ((∀ (s : State) (slot : Nat) (p : Programme) (span : Option Occurrence → List Byte),
     span = (fun o => match o with
       | some v => be32 v.start ++ be32 v.stop
       | none => [0xFF, 0xFF, 0xFF, 0xFF, 0xFF, 0xFF, 0xFF, 0xFF]) →
     programmeData s slot p =
       [b8 slot,
         (match p.state with
           | .empty => 0
           | .waiting => 1
           | .held => 2
           | .preroll => 3
           | .recording => 4
           | .done => 5
           | .disabled => 6),
         b8 (kindCode p.kind + 4 * progSpeedCode p.speed + if p.afterLast then 16 else 0) ||| (s.openBits 2 &&& 0xE0)] ++
       be16 p.date ++ be16 p.start ++ be16 p.stop ++ [b8 p.source] ++ be16 p.target ++ be16 (p.lastDay.getD 65535) ++
       span p.next ++
       [b8 (resultCode p.outcome.result),
         b8 ((if p.outcome.flags.late then 1 else 0) + (if p.outcome.flags.switched then 2 else 0) +
           if p.outcome.flags.fallback then 4 else 0) ||| (s.openBits 23 &&& 0xF8)] ++
       span p.outcome.span) ∧
   (∀ (s : State) (e : Edit),
     editData s e =
       [b8 e.slot, if e.enable then 1 else 0,
         b8 (kindCode e.kind + 4 * progSpeedCode e.speed + if e.afterLast then 16 else 0) ||| (s.openBits 2 &&& 0xE0)] ++
       be16 e.date ++ be16 e.start ++ be16 e.stop ++ [b8 e.source] ++ be16 e.target) ∧
   [ProgKind.once, .daily, .weekdays, .weekly].map kindCode = [0, 1, 2, 3] ∧
   [ProgSpeed.std, .long, .fit].map progSpeedCode = [0, 1, 2])

/-- EDIT-COMMIT (R152, R153). The refusals, the first that holds: STATE with the buffer closed; RANGE for a stop equal to the
start; ABSENT for an EMPTY preset; LOCKED for a locked one while the lock is not open; ABSENT for a target tag that no cassette
record holds; RANGE for an enabled programme that would have no occurrence, or, for a slot in PREROLL or RECORDING, whose run
would be over with the new stop; BUSY for a slot in PREROLL or RECORDING where a field other than the stop differs. BUSY while
the programmes are being wiped comes before them all, by the model (log entry 39). A commit that passes writes the buffer's
fields into the slot, clears the last day and the outcome where kind, date or start differ, marks it for writing and closes the
buffer; enabled, a slot that does not run is WAITING with its next occurrence; with the enable off it is DISABLED without one; a
slot in PREROLL or RECORDING keeps its state, and the occurrence that it runs takes its new stop. The answer is the slot and
the overlap list: in ascending order, without repeats, every other slot in WAITING, HELD, PREROLL or RECORDING whose occurrence
overlaps, and an empty list for a DISABLED programme. -/
def Obligations.EditCommitWritesTheSlot : Prop :=
  (∀ s : State, Taken s → Quiet s → wiping s .programmes = true → Refuses .editCommit s .busy) ∧
  ∀ s : State, Taken s → Quiet s → wiping s .programmes = false →
    (s.tim.edit = none → Refuses .editCommit s .state) ∧
    ∀ e, s.tim.edit = some e →
    (e.stop = e.start → Refuses .editCommit s .range) ∧
    (e.stop ≠ e.start →
      (∀ p, presetAt s e.source = some p → p.used = false → Refuses .editCommit s .absent) ∧
      (presetEmpty s e.source = false →
        (presetLocked s e.source = true → s.lock.state ≠ .unlocked → Refuses .editCommit s .locked) ∧
        (presetLocked s e.source = false ∨ s.lock.state = .unlocked →
          (e.target ≠ 0 → cassetteOf s e.target = none → Refuses .editCommit s .absent) ∧
          (e.target = 0 ∨ (cassetteOf s e.target).isSome = true → ∀ p : Programme, progAt s e.slot = some p →
            ∀ u : Programme, u = { p with
              kind := e.kind, date := e.date, start := e.start, stop := e.stop, source := e.source, speed := e.speed
              afterLast := e.afterLast, target := e.target
              lastDay := if e.kind = p.kind ∧ e.date = p.date ∧ e.start = p.start then p.lastDay else none
              outcome := if e.kind = p.kind ∧ e.date = p.date ∧ e.start = p.start ∧ p.state ≠ .empty then p.outcome
                else .clear } →
            ∀ listed : Occurrence → List Nat → Prop, listed = (fun o list => list.Pairwise (· < ·) ∧
              ∀ k, k ∈ list ↔ k ≠ e.slot ∧ ∃ r, progAt s k = some r ∧ ∃ w, r.next = some w ∧
                (r.state = .waiting ∨ r.state = .held ∨ r.state = .preroll ∨ r.state = .recording) ∧
                o.start < w.stop ∧ w.start < o.stop) →
            ∀ committed : Programme → List Nat → Prop, committed = (fun q list =>
              Replies .editCommit s .ok (b8 e.slot :: b8 list.length :: list.map b8)
                { s with tim := { s.tim with edit := none, programmes := s.tim.programmes.set e.slot q } } []
                [.programme e.slot]) →
            (p.state ≠ .preroll → p.state ≠ .recording →
              (e.enable = true → u.nextOccurrence s.hold.day s.hold.now = none → Refuses .editCommit s .range) ∧
              (e.enable = true → ∀ o, u.nextOccurrence s.hold.day s.hold.now = some o →
                ∃ list, listed o list ∧ committed { u with state := .waiting, next := some o } list) ∧
              (e.enable = false → committed { u with state := .disabled, next := none } [])) ∧
            (p.state = .preroll ∨ p.state = .recording → ∀ o, p.next = some o →
              ∀ stop, stop = o.start + (e.stop + 1440 - p.start) % 1440 →
              (stop ≤ s.hold.now → Refuses .editCommit s .range) ∧
              (s.hold.now < stop →
                (¬(e.enable = true ∧ e.kind = p.kind ∧ e.date = p.date ∧ e.start = p.start ∧ e.source = p.source ∧
                    e.speed = p.speed ∧ e.afterLast = p.afterLast ∧ e.target = p.target) → Refuses .editCommit s .busy) ∧
                (e.enable = true → e.kind = p.kind → e.date = p.date → e.start = p.start → e.source = p.source →
                  e.speed = p.speed → e.afterLast = p.afterLast → e.target = p.target →
                  ∃ list, listed ⟨o.start, stop⟩ list ∧
                    committed { p with stop := e.stop, next := some ⟨o.start, stop⟩ } list)))))))

/-- The next occurrence (R145). The run of a day d starts at d × 1440 + start and stops ((stop − start) mod 1440) minutes later.
The next occurrence is the run of the earliest day from 0 to 36,524 that is after the last day, at least yesterday, whose
run stops after now, and that fits the kind; and there is none if no day meets these conditions. The clock's valid flag
plays no part in it, and working it out changes nothing, for it is a function of the programme, the day and the time alone. -/
def Obligations.NextOccurrenceIsTheEarliest : Prop :=
  ∀ (p : Programme) (today now : Nat), p.start < 1440 → p.stop < 1440 → today * 1440 ≤ now → now < (today + 1) * 1440 →
    (∀ d, p.runOn d = ⟨d * 1440 + p.start, d * 1440 + p.start + (p.stop + 1440 - p.start) % 1440⟩) ∧
    (∀ d, p.fitsKind d = true ↔
      (p.kind = .once ∧ d = p.date) ∨ p.kind = .daily ∨ (p.kind = .weekdays ∧ d % 7 ≤ 4) ∨
        (p.kind = .weekly ∧ d % 7 = p.date % 7)) ∧
    (∀ o, p.nextOccurrence today now = some o →
      ∃ d, d = o.start / 1440 ∧ d ≤ 36524 ∧ o = p.runOn d ∧
        (∀ l, p.lastDay = some l → l < d) ∧ today ≤ d + 1 ∧ now < o.stop ∧ p.fitsKind d = true ∧
        ∀ e, e < d → ¬((∀ l, p.lastDay = some l → l < e) ∧ today ≤ e + 1 ∧ now < (p.runOn e).stop ∧ p.fitsKind e = true)) ∧
    (p.nextOccurrence today now = none →
      ∀ d, d ≤ 36524 → ¬((∀ l, p.lastDay = some l → l < d) ∧ today ≤ d + 1 ∧ now < (p.runOn d).stop ∧ p.fitsKind d = true))

/-- PROGRAMME-DISABLE (R154): checked by R144; BUSY in PREROLL or RECORDING, ABSENT when EMPTY; a slot in WAITING, HELD or DONE
becomes DISABLED, its next occurrence absent, its last day and outcome kept; a DISABLED slot is left as it is; and
EDIT-OPEN(NEW) takes no DISABLED slot. -/
def Obligations.ProgrammeDisableRule : Prop :=
  ∀ (slot : Nat) (s : State), Taken s → Quiet s →
    (wiping s .programmes = true → Refuses (.programmeDisable slot) s .busy) ∧
    (wiping s .programmes = false → 16 ≤ slot → Refuses (.programmeDisable slot) s .range) ∧
    (wiping s .programmes = false → slot < 16 → s.hold.power = .timerStandby → Refuses (.programmeDisable slot) s .state) ∧
    (wiping s .programmes = false → slot < 16 → s.hold.power ≠ .timerStandby → ∀ p, progAt s slot = some p →
      (p.state = .preroll ∨ p.state = .recording → Refuses (.programmeDisable slot) s .busy) ∧
      (p.state = .empty → Refuses (.programmeDisable slot) s .absent) ∧
      (p.state = .waiting ∨ p.state = .held ∨ p.state = .done →
        Replies (.programmeDisable slot) s .ok []
          { s with tim := { s.tim with
            programmes := s.tim.programmes.set slot { p with state := .disabled, next := none } } } [] [.programme slot]) ∧
      (p.state = .disabled → Replies (.programmeDisable slot) s .ok [] s [] [])) ∧
    (∀ n, newSlot s = some n → ∀ p, progAt s n = some p → p.state ≠ .disabled)

/-- POWER (R158): STATE in TIMER-STANDBY; on makes an OFF deck ON and changes nothing in ON; off from ON, with an empty deck,
no programme running or HELD, no search and no external recording, writes OFF and closes an open lock (R157, R181); off in OFF
changes nothing. POWER off from ON, and TIMER-DISARM from TIMER-STANDBY, with a cassette in the deck give the target HALTED
(R157): reached at once where the tape winds, by UNTHREADING where it is threaded. A HELD programme is missed, MISSED being
raised; a programme that records ends ABORTED, its title closed, the tuner given back (a saved line input or source 0 tuned as
the model does, log entries 25 and 59) and the tape sent to HALTED. TIMER-ARM, TIMER-DISARM and the TIMER-KEY edge (R158,
R159): the checks of arming in order, STATE for an invalid clock, for no programme that waits and for an open edit buffer, then
BUSY while a programme runs; an arming from OFF, and a disarming with an empty deck, write the deck power state and close an
open lock; an arming from ON also halts the transport and gives the tuner back, as there; the key does the same and raises
POWER with ARMED, DISARMED or KEY-REFUSED, and a line without the function does nothing. That the check of R160 comes after all
the steps of R157, so that a TIMER-DISARM whose last waiting programme was HELD raises MISSED and no AUTO-OFF (log entry 5),
that a wipe in progress bars neither POWER nor arming (log entry 39), and the RANGE of a POWER value that is neither on nor off
(log entry 40) are the model's choices. What becomes of a programme whose run is over (R147, R174): DONE for ONCE, else WAITING
with its next occurrence, or DONE without one. -/
def Obligations.DeckPowerRequests : Prop :=
  (∀ s : State, Taken s → Quiet s →
     (∀ n, Refuses (.power (.other n)) s .range) ∧
     (∀ on, s.hold.power = .timerStandby → Refuses (.power (.of on)) s .state) ∧
     (s.hold.power = .off → Replies (.power (.of true)) s .ok [] { s with hold := { s.hold with power := .on } } [] []) ∧
     (s.hold.power = .on → Replies (.power (.of true)) s .ok [] s [] []) ∧
     (s.hold.power = .off → Replies (.power (.of false)) s .ok [] s [] []) ∧
     (s.hold.power = .on → s.mech.mode = .empty → s.tim.run = none → (∀ p ∈ s.tim.programmes, p.state ≠ .held) →
       s.tun.scan = none →
       Replies (.power (.of false)) s .ok []
         { s with
           hold := { s.hold with power := .off }
           lock := { s.lock with state := if s.lock.state = .unlocked then .locked else s.lock.state } } [] [])) ∧
  (∀ (i : Instr) (s : State), Taken s → (i = .power (.of false) ∧ s.hold.power = .on) ∨
       (i = .timerDisarm ∧ s.hold.power = .timerStandby) → s.tun.scan = none →
     ∀ off : State → State, off = (fun u => { u with
       hold := { s.hold with power := .off }
       lock := { s.lock with state := if s.lock.state = .unlocked then .locked else s.lock.state } }) →
     (s.mech.dewLock = false → s.tim.run = none → s.tim.ext = .none → (∀ p ∈ s.tim.programmes, p.state ≠ .held) →
       Unclaimed s →
       (s.mech.mode.winding = true → Replies i s .ok [] (off (entered .halted s)) [] []) ∧
       (s.mech.mode.idleThreaded = true → s.pins.cam = .threadPos →
         Replies i s .ok [] (off (aiming (some ⟨.halted, .timer⟩) (entered .unthreading s))) [] [])) ∧
     (s.mech.mode = .empty → s.tim.run = none → ∀ slot p, progAt s slot = some p → p.state = .held →
       (∀ k, k ≠ slot → ∀ q, progAt s k = some q → q.state ≠ .held) →
       ∀ q, q = Programme.afterRun { p with
         outcome := ⟨.missed, ⟨false, false, false⟩, p.next⟩
         lastDay := p.next.map fun (o : Occurrence) => o.start / 1440 } s.hold →
       (p.kind = .once → q.next = none ∧ q.state = .done) ∧
       (p.kind ≠ .once → q.next = Programme.nextOccurrence { p with lastDay := q.lastDay } s.hold.day
           (s.hold.day * 1440 + s.hold.seconds / 60) ∧
         q.state = if q.next.isSome then .waiting else .done) ∧
       Replies i s .ok [] (off { s with tim := { s.tim with programmes := s.tim.programmes.set slot q } })
         [(.timer, missedReason, slot * 16 + (s.openBits 0).toNat % 16)] [.programme slot]) ∧
     (s.mech.mode = .recording → s.pins.cam = .threadPos → s.mech.dewLock = false → s.cue.seek = none → s.mech.target = none →
       s.cue.writer = .idle → s.tun.owner = .timer → s.tim.ext = .none → ∀ run, s.tim.run = some run → run.phase = .recording →
       s.mech.cause = .programme run.slot → (∀ p ∈ s.tim.programmes, p.state ≠ .held) →
       ∀ p, progAt s run.slot = some p → p.kind = .once →
       ∀ r, s.cat.recording = some r → ∀ k, r.title = some k → ∀ x, titleAt s k = some x →
       ∃ t, exec i s = .next t ∧ t.link.buffer = .ready ⟨.ok, []⟩ ∧ t.hold.power = .off ∧ t.tim.run = none ∧
         progAt t run.slot = some { p with state := .done, next := none, outcome := ⟨.aborted, run.flags, p.next⟩ } ∧
         titleAt t k = some { x with isOpen := false } ∧ t.cat.recording = none ∧ t.mech.cause = .none ∧
         t.mech.mode = .unthreading ∧ t.mech.target = some ⟨.halted, .timer⟩ ∧ t.tun = givenBack s ∧
         (t.link.notices.get .timer).map (fun n => (n.reason, n.detail)) =
           some (endedReason, run.slot * 16 + resultCode .aborted))) ∧
  (∀ s : State, Quiet s → s.tim.run.isSome = true → s.hold.power ≠ .timerStandby → s.hold.valid = true →
     (∃ p ∈ s.tim.programmes, p.waits = true) → s.tim.edit = none →
     (Taken s → Refuses .timerArm s .busy) ∧
     (s.mainPower = true → lineAssigned s .timerKey = true →
       Becomes .timerKeyEdge s (setLine .timerKey true s) [(.power, keyRefusedReason, 0)] [])) ∧
  (∀ s : State, Quiet s → s.tim.run = none → s.tun.scan = none →
     ∀ w : State, w = { s with lock := { s.lock with state := if s.lock.state = .unlocked then .locked else s.lock.state } } →
     (Taken s → s.hold.power = .timerStandby → Replies .timerArm s .ok [] s [] []) ∧
     (Taken s → s.hold.power ≠ .timerStandby → s.hold.valid = false → Refuses .timerArm s .state) ∧
     (Taken s → s.hold.power ≠ .timerStandby → (∀ p ∈ s.tim.programmes, p.waits = false) → Refuses .timerArm s .state) ∧
     (Taken s → s.hold.power ≠ .timerStandby → s.tim.edit.isSome = true → Refuses .timerArm s .state) ∧
     (Taken s → s.hold.power = .off → s.hold.valid = true → (∃ p ∈ s.tim.programmes, p.waits = true) → s.tim.edit = none →
       Replies .timerArm s .ok [] { w with hold := { s.hold with power := .timerStandby } } [] []) ∧
     (Taken s → s.hold.power = .on → s.hold.valid = true → (∃ p ∈ s.tim.programmes, p.waits = true) → s.tim.edit = none →
       s.tim.ext = .none → ∀ armed : State → State, armed = (fun u => { u with
         hold := { s.hold with power := .timerStandby }
         lock := w.lock
         tun := if s.tun.owner = .record ∨ s.tun.owner = .timer then givenBack s else s.tun }) →
       (s.mech.mode = .empty → Replies .timerArm s .ok [] (armed s) [] []) ∧
       (Unclaimed s → s.mech.dewLock = false → s.mech.mode.winding = true →
         Replies .timerArm s .ok [] (armed (entered .halted s)) [] []) ∧
       (Unclaimed s → s.mech.dewLock = false → s.mech.mode.idleThreaded = true → s.pins.cam = .threadPos →
         Replies .timerArm s .ok [] (armed (aiming (some ⟨.halted, .timer⟩) (entered .unthreading s))) [] [])) ∧
     (Taken s → s.hold.power = .on → Refuses .timerDisarm s .state) ∧
     (Taken s → s.hold.power = .off → Replies .timerDisarm s .ok [] s [] []) ∧
     (Taken s → s.hold.power = .timerStandby → s.mech.mode = .empty → (∀ p ∈ s.tim.programmes, p.state ≠ .held) →
       Replies .timerDisarm s .ok [] { w with hold := { s.hold with power := .off } } [] []) ∧
     (lineAssigned s .timerKey = false → exec .timerKeyEdge s = .next s) ∧
     (s.mainPower = true → lineAssigned s .timerKey = true →
       (s.hold.power = .off → s.hold.valid = true → (∃ p ∈ s.tim.programmes, p.waits = true) → s.tim.edit = none →
         Becomes .timerKeyEdge s (setLine .timerKey true { w with hold := { s.hold with power := .timerStandby } })
           [(.power, armedReason, 0)] []) ∧
       (s.hold.power = .timerStandby → s.mech.mode = .empty → (∀ p ∈ s.tim.programmes, p.state ≠ .held) →
         Becomes .timerKeyEdge s (setLine .timerKey true { w with hold := { s.hold with power := .off } })
           [(.power, disarmedReason, 0)] []) ∧
       (s.hold.power ≠ .timerStandby → s.hold.valid = false →
         Becomes .timerKeyEdge s (setLine .timerKey true s) [(.power, keyRefusedReason, 0)] [])))

/-- When the transport is free, and the evaluation that a transport become free asks for (R165, R167, R168): in TIMER-STANDBY
during LOADING, the one programme that waits, HELD and not yet over, enters PREROLL, its day becoming its last day, the run
record holds it, and PREROLL is raised; with the transport not free, or no evaluation asked for, nothing happens. A command
that takes the transport from not free to free asks for the evaluation (R164), which waits for its own command by the model
(log entry 6). -/
def Obligations.FreeTransportIsEvaluated : Prop :=
  (∀ (i : Instr) (s t : State), s.mainPower = true → (∀ inputs, i ≠ .powerUp inputs) → exec i s = .next t →
     transportFree s = false → transportFree t = true → t.tim.freeDue = true) ∧
  ∀ (slot : Nat) (s : State), s.mainPower = true → s.hold.valid = true → Quiet s →
    (transportFree s = true ↔ s.tim.run = none ∧ s.tim.ext = .none ∧ s.mech.cause ≠ .manual ∧ s.pins.powerWarning = false ∧
      (s.hold.power = .on → (s.mech.mode = .empty ∨ s.mech.mode = .halted ∨ s.mech.mode = .ready) ∧
        (s.mech.target.any fun g => g.owner == .host) = false ∧
        (s.cue.seek.any fun k => match k.kind with
          | .placement _ => false
          | _ => true) = false)) ∧
    (s.tim.freeDue = false ∨ transportFree s = false → Becomes .transportFreeEvaluation s s [] []) ∧
    (s.tim.freeDue = true → transportFree s = true → s.hold.power = .timerStandby → s.mech.mode = .loading →
      ∀ p, progAt s slot = some p → p.state = .held → ∀ o, p.next = some o → s.hold.now < o.stop →
      (∀ k, k ≠ slot → ∀ q, progAt s k = some q → q.waits = false) → s.tun.scan = none →
      ∃ t, exec .transportFreeEvaluation s = .next t ∧ Fresh t ∧
        (∃ run, t.tim.run = some run ∧ run.slot = slot ∧ run.phase = .checking) ∧ progAt t slot = some { p with state := .preroll, lastDay := some (o.start / 1440) } ∧
        (∀ k, k ≠ slot → progAt t k = progAt s k) ∧ t.tun.owner = .timer ∧ t.mech.mode = .loading ∧
        (t.link.notices.get .timer).map (·.reason) = some prerollReason ∧ Awaits (.programme slot) t ∧
        t.settings = s.settings ∧ t.cat.pool = s.cat.pool ∧ t.hold = s.hold)

/-- The preroll lead (R166), the fit with its length and time (R171), as their tables give them, and what becomes of a
programme whose occurrence is over (R147, R174). The waiting rule at a second event (R167), for the one programme that waits:
in OFF its start reached, it is missed; with the transport not free it becomes HELD at its start; with it free it enters
PREROLL when HELD, or at its preroll point, and is checked (R168): a failed check ends the occurrence with its result; else the
tape is placed HERE, from HALTED by threading toward REC-PAUSE, from READY at once (R169). These clauses, those of the start
and those of the end are for a machine whose run record is consistent, as every step keeps it (RunOk, R163). A placed programme
starts (R169, R170), a SHIFT applied at the same event or not (R180): at the second event that reaches its start, without LATE,
or that passes it, LATE; at the completion of a placement whose start is reached already, LATE, by the model's reading (log
entry 48); before it, it waits. Its recording has cause PROGRAMME, the plan and first speed of its speed or of the fit, and
opens a title of that origin; a fit that finds too little tape ends the occurrence TAPE-END, and a stop reached in PREROLL
misses it (R173). A recording programme (R173 to R175, R178, R180) runs on before its stop; at the event that reaches it, with
nothing to hand over to, the recording ends COMPLETE in READY, the tuner given back (log entries 25 and 59), and in
TIMER-STANDBY with nothing left the deck goes OFF and unthreads; to a HELD programme it hands over while the tape stays in REC,
and a HELD one of another cassette, or without tape for its fit, ends with that result, without flags by the model (log entry
70); the power warning suspends it. A pending fit is decided by an accepted supply measurement in REC, and a count that is
reached switches the recording to LONG, the title becoming MIXED (R172). -/
def Obligations.ProgrammesRun : Prop :=
  ((∀ (p : Programme) (s : State), ∀ base, base = (if s.mech.mode = .ready then 4 else 12) →
     (p.afterLast = false ∨ s.cue.identity = .none ∨ anchoredP s = none → prerollLead p s = base) ∧
     (p.afterLast = true → ∀ tag, s.cue.identity.tag = some tag → ∀ pos, anchoredP s = some pos →
       ∀ far, far = (endTarget s tag - pos).natAbs →
       (far ≤ 60 * fr s → prerollLead p s = base) ∧
       (60 * fr s < far → prerollLead p s = min 300 (base + 10 + (far + 120 * fr s - 1) / (120 * fr s))))) ∧
   (∀ (f : Nat) (l ds : Int), 0 < f → ∀ x, x = l / f - ds →
     (l < 4 * f → (fitOf f l ds).plan = none) ∧
     (4 * f ≤ l → ds ≤ x → (fitOf f l ds).plan = some (.decided, .std)) ∧
     (4 * f ≤ l → x < ds → x ≤ 0 → (fitOf f l ds).plan = some (.decided, .long)) ∧
     (4 * f ≤ l → x < ds → 0 < x → (fitOf f l ds).plan = some (.switchAt (2 * f * x).toNat, .std))) ∧
   Fit.unknown.plan = some (.fitPending, .std) ∧
   (∀ (o : Occurrence) (now : Nat), fitSeconds o now = ((o.stop : Int) - max (o.start : Int) now) * 60) ∧
   (∀ (rem : Int) (s : State),
     (s.cue.identity = .none ∨ anchoredP s = none → fitLength s rem = rem - 4 * fr s) ∧
     (∀ tag, s.cue.identity.tag = some tag → ∀ pos, anchoredP s = some pos → ∀ ahead : List Title,
       ahead = ((titlesOf s tag).map (·.2)).filter (fun x => x.anchored && x.isProtected && decide (pos ≤ x.start)) →
       (ahead = [] → fitLength s rem = rem - 4 * fr s) ∧
       (∀ x rest, ahead = x :: rest → fitLength s rem = min rem (x.start - 4 * fr s - pos) - 4 * fr s))) ∧
   (∀ (p : Programme) (h : Hold),
     (p.kind = .once → p.afterRun h = { p with next := none, state := .done }) ∧
     (p.kind ≠ .once →
       (∀ o, p.nextOccurrence h.day (h.day * 1440 + h.seconds / 60) = some o →
         p.afterRun h = { p with next := some o, state := .waiting }) ∧
       (p.nextOccurrence h.day (h.day * 1440 + h.seconds / 60) = none →
         p.afterRun h = { p with next := none, state := .done })))) ∧
  (∀ (slot : Nat) (s : State), RunOk s → s.hold.intact = true → s.mainPower = true → s.hold.valid = true → s.hold.staged = .none →
     s.tim.run = none → s.hold.seconds < 86399 → s.hold.periodSecond < 598 → s.tun.scan = none →
     ∀ p, progAt s slot = some p → p.kind = .once → ∀ o, p.next = some o →
     (∀ k, k ≠ slot → ∀ q, progAt s k = some q → q.waits = false) →
     ∀ h, h = { s.hold with count := 0, periodSecond := s.hold.periodSecond + 1, seconds := s.hold.seconds + 1 } →
     ∀ now, now = s.hold.day * 1440 + (s.hold.seconds + 1) / 60 →
     ∀ left : Programme → State,
       left = (fun q => { s with hold := h, tim := { s.tim with programmes := s.tim.programmes.set slot q } }) →
     (s.hold.power = .off → p.state = .waiting → o.start ≤ now →
       Becomes .secondEvent s
         (left { p with
           state := .done, next := none, lastDay := some (o.start / 1440)
           outcome := ⟨.missed, ⟨false, false, false⟩, some o⟩ })
         [(.timer, missedReason, slot * 16 + (s.openBits 0).toNat % 16)] [.programme slot]) ∧
     (s.hold.power ≠ .off → transportFree s = false → p.state = .waiting →
       (o.start ≤ now → Becomes .secondEvent s (left { p with state := .held })
         [(.timer, heldReason, slot * 16 + (s.openBits 0).toNat % 16)] [.programme slot]) ∧
       (now < o.start → Becomes .secondEvent s { s with hold := h } [] [])) ∧
     (s.hold.power ≠ .off → transportFree s = true →
       (p.state = .waiting → (h.day * 86400 + h.seconds : Int) < o.start * 60 - prerollLead p s →
         Becomes .secondEvent s { s with hold := h } [] []) ∧
       ((p.state = .held ∧ now < o.stop) ∨
         (p.state = .waiting ∧ (o.start * 60 : Int) - prerollLead p s ≤ h.day * 86400 + h.seconds) →
         (∀ result, prerollCheck p s = some result → s.mech.mode ≠ .loading → s.mech.mode ≠ .threading →
           s.mech.mode ≠ .unthreading →
           ∃ t, exec .secondEvent s = .next t ∧ t.tim.run = none ∧ t.cat.pool = s.cat.pool ∧
             progAt t slot = some { p with
               state := .done, next := none, lastDay := some (o.start / 1440)
               outcome := ⟨result, ⟨false, false, false⟩, some o⟩ } ∧ Awaits (.programme slot) t) ∧
         (prerollCheck p s = none → p.afterLast = false → Unclaimed s →
           (s.mech.mode = .halted → s.pins.cam = .haltPos →
             ∃ t, exec .secondEvent s = .next t ∧ Fresh t ∧
               t.tim.run = some ⟨slot, .placing, ⟨false, false, false⟩, p.firstPlan, 0⟩ ∧
               progAt t slot = some { p with state := .preroll, lastDay := some (o.start / 1440) } ∧
               t.mech.mode = .threading ∧ t.mech.target = some ⟨.recPause, .timer⟩ ∧ t.tun.owner = .timer ∧
               (t.link.notices.get .timer).map (·.reason) = some prerollReason) ∧
           (s.mech.mode = .ready → now < o.start →
             ∃ t, exec .secondEvent s = .next t ∧ Fresh t ∧
               t.tim.run = some ⟨slot, .placed, ⟨false, false, false⟩, p.firstPlan, 0⟩ ∧
               progAt t slot = some { p with state := .preroll, lastDay := some (o.start / 1440) } ∧
               t.mech.mode = .recPause ∧ t.mech.target = none ∧ t.mech.cause = .none ∧ t.tun.owner = .timer))))  ∧
     (∀ t : State,
       (t.mech.mode = .empty ∨ t.mech.mode = .ejecting → prerollCheck p t = some .noCassette) ∧
       (t.mech.mode = .fault → prerollCheck p t = some .fault) ∧
       (loaded t = true → t.mech.mode ≠ .empty → t.mech.mode ≠ .ejecting → t.mech.mode ≠ .fault →
         (t.mech.dewLock = true → prerollCheck p t = some .dew) ∧
         (t.mech.dewLock = false → t.mech.tab = false → prerollCheck p t = some .noTab) ∧
         (t.mech.dewLock = false → t.mech.tab = true → p.target ≠ 0 → t.cue.identity.tag ≠ some p.target →
           prerollCheck p t = some .wrongCassette) ∧
         (t.mech.dewLock = false → t.mech.tab = true → p.target = 0 ∨ t.cue.identity.tag = some p.target →
           prerollCheck p t = none)))) ∧
  (∀ s : State, RunOk s → s.mainPower = true → s.hold.valid = true → ∀ run, s.tim.run = some run →
     run.flags = ⟨false, false, false⟩ → ∀ p, progAt s run.slot = some p → ∀ o, p.next = some o →
     ∀ choose : Nat → Option (Plan × Speed), choose = (fun now => planOf p.speed (fitAt o now (remaining s) s)) →
     s.cue.seek = none → s.mech.cause = .none → s.cue.writer = .idle → s.tun.owner = .timer → s.tun.scan = none → s.tim.ext = .none →
     startOn s = none → ∀ tag, s.cue.identity.tag = some tag → ∀ c, cassetteOf s tag = some c →
     (titlesOf s tag).length < 63 → (∀ l, limitFrom s tag ((position s).getD 0) = some l → (position s).getD 0 < l) →
     ∀ i, freeRecord s.cat = some i →
     (run.phase = .placed → s.mech.mode = .recPause → s.mech.target = none → s.hold.intact = true →
       (∀ q ∈ s.tim.programmes, q.waits = false) → ∀ now, NextNow s now →
       (now < o.stop → now < o.start →
         ∃ t, exec .secondEvent s = .next t ∧ t.tim.run = s.tim.run ∧ t.mech = s.mech ∧ t.cat.pool = s.cat.pool) ∧
       (now < o.stop → o.start ≤ now →
         (∀ plan v, choose now = some (plan, v) →
           ∃ t, exec .secondEvent s = .next t ∧ Begun run.slot tag i p plan v (decide (o.start < now)) s t) ∧
         (choose now = none → p.kind = .once →
           ∃ t, exec .secondEvent s = .next t ∧ t.tim.run = none ∧ t.cat.pool = s.cat.pool ∧ t.tun = givenBack s ∧
             progAt t run.slot = some { p with
               state := .done, next := none, outcome := ⟨.tapeEnd, ⟨false, false, false⟩, some o⟩ } ∧
             (t.link.notices.get .timer).map (fun n => (n.reason, n.detail)) =
               some (endedReason, run.slot * 16 + resultCode .tapeEnd) ∧
             (s.hold.power = .on → s.mech.dewLock = false → t.mech.mode = .ready))) ∧
       (o.stop ≤ now → p.kind = .once →
         ∃ t, exec .secondEvent s = .next t ∧ t.tim.run = none ∧ t.cat.pool = s.cat.pool ∧ t.tun = givenBack s ∧
           progAt t run.slot = some { p with
             state := .done, next := none, lastDay := some (o.start / 1440)
             outcome := ⟨.missed, ⟨false, false, false⟩, some o⟩ } ∧
           (t.link.notices.get .timer).map (·.reason) = some missedReason ∧
           (s.hold.power = .on → s.mech.dewLock = false → t.mech.mode = .ready))) ∧
     (run.phase = .placing → s.mech.mode = .threading → s.mech.drumLock = true → s.mech.target = some ⟨.recPause, .timer⟩ →
       ∀ now, now = s.hold.day * 1440 + s.hold.seconds / 60 →
       (now < o.start →
         ∃ t, exec .threadingComplete s = .next t ∧ t.tim.run = some { run with phase := .placed } ∧
           t.mech.mode = .recPause ∧ t.mech.target = none ∧ t.cat.pool = s.cat.pool) ∧
       (o.start ≤ now → ∀ plan v, choose now = some (plan, v) →
         ∃ t, exec .threadingComplete s = .next t ∧ Begun run.slot tag i p plan v true s t))) ∧
  (∀ s : State, RunOk s → s.mainPower = true → s.hold.intact = true → s.hold.valid = true →
     s.mech.mode = .recording → s.cue.writer = .idle → s.cue.seek = none → s.mech.target = none →
     s.tun.owner = .timer → ∀ run, s.tim.run = some run → run.phase = .recording → s.mech.cause = .programme run.slot →
     ∀ p, progAt s run.slot = some p → p.kind = .once → p.state = .recording → ∀ o, p.next = some o →
     ∀ r, s.cat.recording = some r → ∀ i, r.title = some i → ∀ x, titleAt s i = some x →
     ∀ ended : ProgResult → Programme, ended = (fun e => { p with
       state := .done, next := none, outcome := ⟨e, run.flags, some o⟩ }) →
     (∀ now, NextNow s now →
       (now < o.stop →
         ∃ t, exec .secondEvent s = .next t ∧ t.tim.run = s.tim.run ∧ progAt t run.slot = some p ∧ t.mech = s.mech ∧
           t.cat.pool = s.cat.pool ∧ t.tun = s.tun) ∧
       (o.stop ≤ now → (∀ q ∈ s.tim.programmes, q.waits = false) → s.tim.ext = .none →
         ∃ t, exec .secondEvent s = .next t ∧ t.tim.run = none ∧ progAt t run.slot = some (ended .complete) ∧
           titleAt t i = some { x with isOpen := false } ∧ t.cat.recording = none ∧ t.mech.cause = .none ∧
           t.tun = givenBack s ∧
           (t.link.notices.get .timer).map (fun n => (n.reason, n.detail)) =
             some (endedReason, run.slot * 16 + resultCode .complete) ∧
           (s.hold.power = .on → t.mech.mode = .ready ∧ t.hold.power = .on) ∧
           (s.hold.power = .timerStandby → s.pins.cam = .threadPos → s.mech.dewLock = false →
             t.hold.power = .off ∧ t.mech.mode = .unthreading ∧ t.mech.target = some ⟨.halted, .timer⟩)) ∧
       (s.hold.staged = .none → o.stop ≤ now → ∀ slot q, progAt s slot = some q → q.state = .held → slot ≠ run.slot →
         (∀ k, k ≠ slot → ∀ z, progAt s k = some z → z.waits = false) → ∀ w, q.next = some w → now < w.stop →
         ∀ f, f = planOf q.speed (fitAt w now (remaining s) s) →
         (q.target = 0 ∨ s.cue.identity.tag = some q.target → ∀ plan v, f = some (plan, v) → startOn s = none →
           ∀ tag, s.cue.identity.tag = some tag → ∀ c, cassetteOf s tag = some c → (titlesOf s tag).length < 63 →
           (∀ l, limitFrom s tag ((position s).getD 0) = some l → (position s).getD 0 < l) → ∀ j, freeRecord s.cat = some j →
           ∃ t, exec .secondEvent s = .next t ∧ t.mech.mode = .recording ∧ t.mech.cause = .programme slot ∧
             t.mech.recSpeed = v ∧ t.tim.run = some ⟨slot, .recording, ⟨decide (w.start < now), false, false⟩, plan, 0⟩ ∧
             progAt t run.slot = some (ended .complete) ∧
             progAt t slot = some { q with state := .recording, lastDay := some (w.start / 1440) } ∧
             titleAt t i = some { x with isOpen := false } ∧
             (titleAt t j).map (fun y => (y.tag, y.origin, y.isOpen, y.length, y.speed)) =
               some (tag, .programme slot, true, 0, if v = .std then .std else .long) ∧
             t.tun.owner = .timer ∧ (t.link.notices.get .timer).map (·.reason) = some startedReason) ∧
         (q.kind = .once → ∀ e,
           (q.target ≠ 0 ∧ s.cue.identity.tag ≠ some q.target ∧ e = ProgResult.wrongCassette) ∨
             ((q.target = 0 ∨ s.cue.identity.tag = some q.target) ∧ f = none ∧ e = .tapeEnd) →
           ∃ t, exec .secondEvent s = .next t ∧ t.tim.run = none ∧ t.mech.cause = .none ∧ t.cat.recording = none ∧
             progAt t run.slot = some (ended .complete) ∧ titleAt t i = some { x with isOpen := false } ∧
             progAt t slot = some { q with
               state := .done, next := none, lastDay := some (w.start / 1440)
               outcome := ⟨e, ⟨false, false, false⟩, some w⟩ } ∧
             (s.hold.power = .on → t.mech.mode = .ready)))) ∧
     (∃ t, exec .powerWarning s = .next t ∧ t.tim.run = none ∧
       progAt t run.slot = some { p with state := .waiting, outcome := ⟨.powerFail, run.flags, some o⟩ } ∧
       titleAt t i = some { x with isOpen := false, incomplete := true } ∧ t.cat.recording = none ∧
       t.mech.mode = .fault ∧ t.mech.faultReason = some .power ∧ t.mech.outcome = .powerFail ∧ t.tun = givenBack s)) ∧
  (∀ s : State, s.mainPower = true → s.mech.mode = .recording → s.cue.seek = none → ∀ run, s.tim.run = some run →
     run.phase = .recording → ∀ p, progAt s run.slot = some p → ∀ o, p.next = some o →
     ∀ r, s.cat.recording = some r → ∀ i, r.title = some i → ∀ x, titleAt s i = some x → x.isOpen = true →
     ∀ pl, s.pos.place = some pl →
     ∀ long : Title, long = (if x.speed ≠ .std then x else if x.length = 0 then { x with speed := .long }
       else { x with speed := .mixed, switchAt := some x.length }) →
     ∀ m, s.pos.supply = some m → 1000 ≤ m.steps → m.steps ≤ 20000 →
     ∀ f, f = fitAt o s.hold.now (some (remainingOf (reelInForce s) m.steps)) s →
     (run.plan ≠ .fitPending ∨ f = .unknown → ∃ t, exec .supplyMeasurementComplete s = .next t ∧ t.tim.run = s.tim.run ∧ t.mech = s.mech ∧
       titleAt t i = some x) ∧
     (run.plan = .fitPending → f = .std → ∃ t, exec .supplyMeasurementComplete s = .next t ∧
       t.tim.run = some { run with plan := .decided } ∧ t.mech = s.mech ∧ titleAt t i = some x) ∧
     (run.plan = .fitPending → f = .long ∨ f = .tooShort → ∃ t, exec .supplyMeasurementComplete s = .next t ∧
       t.tim.run = some { run with plan := .decided, flags := { run.flags with switched := true } } ∧
       t.mech = { s.mech with recSpeed := .long } ∧ titleAt t i = some long) ∧
     (∀ n, run.plan = .fitPending → f = .switchAt n → ∃ t, exec .supplyMeasurementComplete s = .next t ∧
       t.tim.run = some { run with plan := .switchAt (run.count + n) } ∧ t.mech = s.mech ∧ titleAt t i = some x)) ∧
  (∀ s : State, s.mainPower = true → s.mech.mode = .recording → s.mech.forward = true → s.cue.seek = none →
     s.pos.memoryStop = false → s.cue.writer = .idle → ∀ pl, s.pos.place = some pl → pl.quality ≠ .unanchored → 0 ≤ pl.p →
     pl.p < 1048575 → ∀ r, s.cat.recording = some r → ∀ i, r.title = some i → ∀ tag, r.tag = some tag →
     ∀ x, titleAt s i = some x → x.speed = .std → x.isProtected = false → ∀ c, cassetteOf s tag = some c → c.titles = [i] →
     c.dead = [] → s.cue.identity.tag = some tag →
     ∀ run, s.tim.run = some run → run.phase = .recording → run.count < 1048575 →
     ∀ counted : Run, counted = { run with count := run.count + 1 } →
     ((∀ n, run.plan = .switchAt n → run.count + 1 < n) → ∃ t, exec .countingStep s = .next t ∧ t.tim.run = some counted ∧
       t.mech = s.mech ∧ titleAt t i = some { x with length := x.length + 1 }) ∧
     (∀ n, run.plan = .switchAt n → n ≤ run.count + 1 → ∃ t, exec .countingStep s = .next t ∧
       t.tim.run = some { counted with plan := .decided, flags := { run.flags with switched := true } } ∧
       t.mech = { s.mech with recSpeed := .long } ∧
       titleAt t i = some { x with length := x.length + 1, speed := .mixed, switchAt := some (x.length + 1) }))

/-- A falling edge of an EXT-REC line (R176): with the deck ON, the transport free, no dew lock and the record tab present the
tuner is claimed with the EXT source (a line input with offset 0, log entry 25); from HALTED the external record is STARTING
and the tape threads toward REC, from READY the recording starts at once with origin EXTERNAL and EXT-STARTED is raised. The
edge is ignored and EXT-IGNORED is raised, its detail being open (log entry 3), with an external recording in progress, a
programme in PREROLL or RECORDING, the power warning active, a mode other than HALTED and READY, the deck OFF, the deck ON
with the transport not free, the dew lock set or the record tab absent; with no EXT-REC line nothing happens. A rising edge
of an EXT-REC line (R177): with no external recording it changes nothing but the line's level; with the external record
STARTING it gives the target READY and ends it ABORTED; in REC with the external record RECORDING and no programme to hand
over to, the recording ends COMPLETE, its title is closed, and the tape stands in READY. The external record is none, the
tuner goes back to its saved source (a line input or source 0 tuned as the model does, log entries 25 and 59), and EXT-ENDED
is raised, the slot bits of its detail being open (log entry 3). -/
def Obligations.ExternalRecording : Prop :=
  (∀ s : State, Quiet s →
     (lineAssigned s .extRec = false → exec .extRecFallingEdge s = .next s ∧ exec .extRecRisingEdge s = .next s) ∧
     (s.mainPower = true → lineAssigned s .extRec = true →
       s.tim.ext ≠ .none ∨ s.tim.run.isSome = true ∨ s.pins.powerWarning = true ∨
         (s.mech.mode ≠ .halted ∧ s.mech.mode ≠ .ready) ∨ s.hold.power = .off ∨
         (s.hold.power = .on ∧ transportFree s = false) ∨ s.mech.dewLock = true ∨ s.mech.tab = false →
       Becomes .extRecFallingEdge s (setLine .extRec true s) [(.timer, extIgnoredReason, (s.openBits 0).toNat)] []) ∧
     (s.mainPower = true → lineAssigned s .extRec = true → s.tim.ext = .none → transportFree s = true → Obeys s → Unclaimed s →
       s.mech.tab = true → s.tun.owner = .view → s.tun.scan = none →
       ∀ n, n = s.settings.extSource →
       ∀ tun, tunedTo n { s.tun with owner := .timer, saved := some s.tun.source } s = some tun →
       (s.mech.mode = .halted → s.pins.cam = .haltPos →
         Becomes .extRecFallingEdge s
           { aiming (some ⟨.recording, .timer⟩) (entered .threading (setLine .extRec true s)) with
             tim := { s.tim with ext := .starting }, tun := tun } [] []) ∧
       (s.mech.mode = .ready → s.cue.writer = .idle → startOn s = none → (∀ tag, s.cue.identity.tag = some tag →
           (titlesOf s tag).length < 63 ∧ cassetteOf s tag ≠ none ∧ limitFrom s tag ((position s).getD 0) = none) →
         s.cue.identity ≠ .none → ∀ i, freeRecord s.cat = some i →
         ∃ t, exec .extRecFallingEdge s = .next t ∧ Fresh t ∧ t.tim.ext = .recording ∧ t.mech.mode = .recording ∧
           t.mech.cause = .external ∧ t.mech.recSpeed = s.settings.recordSpeed ∧ t.tun = tun ∧
           (∃ x, titleAt t i = some x ∧ x.origin = .external ∧ x.source = n ∧ x.isOpen = true ∧ s.cue.identity.tag = some x.tag) ∧
           (t.link.notices.get .timer).map (·.reason) = some extStartedReason))) ∧
  (∀ s : State, s.mainPower = true → lineAssigned s .extRec = true → Quiet s →
     (s.tim.ext = .none → Becomes .extRecRisingEdge s (setLine .extRec false s) [] []) ∧
     (s.tim.ext = .starting → s.tim.run = none → s.hold.power = .on → s.mech.dewLock = false → s.mech.mode = .threading →
       s.pins.cam ≠ .threadPos → s.mech.target = some ⟨.recording, .timer⟩ → s.cue.seek = none → s.tun.owner = .timer →
       Becomes .extRecRisingEdge s
         { aiming (some ⟨.ready, .timer⟩) (setLine .extRec false s) with
           tun := givenBack s, tim := { s.tim with ext := .none } }
         [(.timer, extEndedReason, (s.openBits 0).toNat / 16 * 16 + resultCode .aborted)] []) ∧
     (s.tim.ext = .recording → s.mech.mode = .recording → s.mech.cause = .external → s.tim.run = none →
       (∀ p ∈ s.tim.programmes, p.waits = false) → s.cue.writer = .idle → s.cue.seek = none → s.mech.target = none →
       s.tun.owner = .timer → s.hold.power = .on →
       ∀ r, s.cat.recording = some r → ∀ i, r.title = some i → ∀ x, titleAt s i = some x →
       ∃ t, exec .extRecRisingEdge s = .next t ∧ Fresh t ∧ t.tim.ext = .none ∧ t.mech.mode = .ready ∧ t.mech.cause = .none ∧
         titleAt t i = some { x with isOpen := false } ∧ t.cat.recording = none ∧ t.tun = givenBack s ∧
         (t.link.notices.get .timer).map (fun n => (n.reason, n.detail % 16)) = some (extEndedReason, resultCode .complete) ∧
         t.settings = s.settings ∧ t.hold = s.hold ∧ t.tim.programmes = s.tim.programmes))

/-! ### The lock, the store and the wipe (chapter 10) -/

/-- UNLOCK (R182): RANGE for a number above 9999, STATE in TIMER-STANDBY and in state NONE, FROZEN in state FROZEN; the right
code opens the lock with five attempts; a wrong one takes an attempt, the state becoming LOCKED, or FROZEN when none is
left; a refused UNLOCK leaves count and state as they were. -/
def Obligations.UnlockRule : Prop :=
  ∀ (code : Nat) (s : State), Taken s → Quiet s →
    (9999 < code → Refuses (.unlock code) s .range) ∧
    (code ≤ 9999 → s.hold.power = .timerStandby → Refuses (.unlock code) s .state) ∧
    (code ≤ 9999 → s.hold.power ≠ .timerStandby → s.lock.state = .none → Refuses (.unlock code) s .state) ∧
    (code ≤ 9999 → s.hold.power ≠ .timerStandby → s.lock.state = .frozen → Refuses (.unlock code) s .frozen) ∧
    (code ≤ 9999 → s.hold.power ≠ .timerStandby → s.lock.state = .locked ∨ s.lock.state = .unlocked →
      (s.settings.lockCode = some code →
        Replies (.unlock code) s .ok [] { s with lock := { s.lock with state := .unlocked, attempts := 5 } } [] []) ∧
      (s.settings.lockCode ≠ some code → 1 < s.lock.attempts →
        Replies (.unlock code) s .locked []
          { s with lock := { s.lock with state := .locked, attempts := s.lock.attempts - 1 } } [] []) ∧
      (s.settings.lockCode ≠ some code → s.lock.attempts ≤ 1 →
        Replies (.unlock code) s .frozen [] { s with lock := { s.lock with state := .frozen, attempts := 0 } } [] []))

/-- RELOCK closes the lock (R183): in UNLOCKED the state becomes LOCKED, the attempt count is kept, and the answer is OK; in
LOCKED the answer is OK and nothing changes; in FROZEN it is FROZEN, in NONE STATE; in every deck power state. -/
def Obligations.RelockRule : Prop :=
  ∀ s : State, Taken s → Quiet s →
    (s.lock.state = .unlocked → Replies .relock s .ok [] { s with lock := { s.lock with state := .locked } } [] []) ∧
    (s.lock.state = .locked → Replies .relock s .ok [] s [] []) ∧
    (s.lock.state = .frozen → Refuses .relock s .frozen) ∧
    (s.lock.state = .none → Refuses .relock s .state)

/-- CODE-SET (R184): from state NONE, or with the right old code, a new code becomes the lock code and the lock is open with
five attempts, SETTINGS being marked; with NONE the code and every lock flag are removed, the presets and titles changed
being marked; a wrong old code costs an attempt as in UNLOCK; and the checks come in their order. -/
def Obligations.CodeSetRule : Prop :=
  ∀ (old new : Nat) (s : State), Taken s → Quiet s →
    ((9999 < old ∧ old ≠ 0xFFFF) ∨ (9999 < new ∧ new ≠ 0xFFFF) → Refuses (.codeSet old new) s .range) ∧
    (old ≤ 9999 ∨ old = 0xFFFF → new ≤ 9999 ∨ new = 0xFFFF →
      (s.hold.power = .timerStandby → Refuses (.codeSet old new) s .state) ∧
      (s.hold.power ≠ .timerStandby → new = 0xFFFF → wiping s .presets = true ∨ wiping s .catalogue = true →
        Refuses (.codeSet old new) s .busy) ∧
      (s.hold.power ≠ .timerStandby → wiping s .presets = false → wiping s .catalogue = false →
        (s.lock.state = .frozen → Refuses (.codeSet old new) s .frozen) ∧
        (s.lock.state = .none ∨ (s.lock.state ≠ .frozen ∧ s.settings.lockCode = some old) → new ≤ 9999 →
          Replies (.codeSet old new) s .ok []
            { s with
              settings := { s.settings with lockCode := some new }
              lock := { s.lock with state := .unlocked, attempts := 5 } } [] [.settings]) ∧
        (s.lock.state = .none ∨ (s.lock.state ≠ .frozen ∧ s.settings.lockCode = some old) → new = 0xFFFF →
          s.tun.presets.length = 99 → s.cat.pool.length = 256 →
          ∃ recs, Replies (.codeSet old new) s .ok []
              { s with
                settings := { s.settings with lockCode := none }
                lock := { s.lock with state := .none, attempts := 5 }
                tun := { s.tun with presets := s.tun.presets.map fun p => { p with locked := false } }
                cat := { s.cat with pool := s.cat.pool.map (Option.map fun t => { t with locked := false }) } } [] recs ∧
            (∀ r, r ∈ recs ↔ r = .settings ∨ (∃ n, r = .preset n ∧ ∃ p, presetAt s n = some p ∧ p.locked = true) ∨
              ∃ i, r = .title i ∧ ∃ t, titleAt s i = some t ∧ t.locked = true)) ∧
        (s.lock.state = .locked ∨ s.lock.state = .unlocked → s.settings.lockCode ≠ some old → 1 < s.lock.attempts →
          Replies (.codeSet old new) s .locked []
            { s with lock := { s.lock with state := .locked, attempts := s.lock.attempts - 1 } } [] []) ∧
        (s.lock.state = .locked ∨ s.lock.state = .unlocked → s.settings.lockCode ≠ some old → s.lock.attempts ≤ 1 →
          Replies (.codeSet old new) s .frozen []
            { s with lock := { s.lock with state := .frozen, attempts := 0 } } [] [])))

/-- LOCK-PRESET and LOCK-TITLE set or clear the lock flag of a used preset, or of the title that holds a slot, marked for
writing; they need an open lock: STATE in state NONE, LOCKED and FROZEN in those states (R185). The mute output (R186, R187) is
active exactly when the lock is not open and, with the tape shown, the current title is LOCKED or an unseen mark hold names a
LOCKED title, or, with the tuner shown, the owner is VIEW on a locked preset. A value that is neither on nor off is RANGE after
the BUSY of a wipe, by the model (log entry 40). The seen flag of the mark hold (R187): a command that leaves another title
current than before leaves a hold seen; a mark read whose tag no cassette record holds, or, with the identity READ of its tag,
whose slot holds no title, leaves its tag and slot held and unseen; an accepted mark leaves them held and seen, also where its
title was current before (log entry 66); no command but the reading of a mark makes a new hold or
clears the flag; and on a load without an identity, before and after, none sets it. -/
def Obligations.LockFlagsAndMute : Prop :=
  (∀ (on : Bool) (s : State), Taken s → Quiet s →
     (∀ n, wiping s .presets = false → 1 ≤ n → n ≤ 99 → s.hold.power ≠ .timerStandby → ∀ p, presetAt s n = some p →
       (∀ k, Refuses (.lockPreset n (.other k)) s .range) ∧
       (s.lock.state = .none → Refuses (.lockPreset n (.of on)) s .state) ∧
       (s.lock.state = .locked → Refuses (.lockPreset n (.of on)) s .locked) ∧
       (s.lock.state = .frozen → Refuses (.lockPreset n (.of on)) s .frozen) ∧
       (s.lock.state = .unlocked → p.used = false → Refuses (.lockPreset n (.of on)) s .absent) ∧
       (s.lock.state = .unlocked → p.used = true →
         Replies (.lockPreset n (.of on)) s .ok []
           { s with tun := { s.tun with presets := s.tun.presets.set (n - 1) { p with locked := on } } } [] [.preset n])) ∧
     (∀ tag slot, wiping s .catalogue = false → 1 ≤ tag → tag ≤ 1023 → 1 ≤ slot → slot ≤ 63 →
       (∀ k, Refuses (.lockTitle tag slot (.other k)) s .range) ∧
       (s.lock.state = .none → Refuses (.lockTitle tag slot (.of on)) s .state) ∧
       (s.lock.state = .locked → Refuses (.lockTitle tag slot (.of on)) s .locked) ∧
       (s.lock.state = .frozen → Refuses (.lockTitle tag slot (.of on)) s .frozen) ∧
       (s.lock.state = .unlocked → titleBySlot s tag slot = none → Refuses (.lockTitle tag slot (.of on)) s .absent) ∧
       (s.lock.state = .unlocked → ∀ x, titleBySlot s tag slot = some x →
         Replies (.lockTitle tag slot (.of on)) s .ok []
           { s with cat := { s.cat with pool := s.cat.pool.set x.1 (some { x.2 with locked := on }) } } [] [.title x.1]))) ∧
  (∀ s : State, mute s = true ↔ s.lock.state ≠ .unlocked ∧
     ((s.mech.mode.tapeShown = true ∧
         ((∃ i, s.cat.current = some i ∧ ∃ t, titleAt s i = some t ∧ t.locked = true) ∨
           (∃ h, s.lock.hold = some h ∧ h.seen = false ∧ ∃ x, titleBySlot s h.tag h.slot = some x ∧ x.2.locked = true))) ∨
       (s.mech.mode.tapeShown = false ∧ s.tun.owner = .view ∧ ∃ p, presetAt s s.tun.source = some p ∧ p.locked = true))) ∧
  (∀ (i : Instr) (s t : State), exec i s = .next t →
     (∀ n, t.cat.current = some n → s.cat.current ≠ some n → ∀ h, t.lock.hold = some h → h.seen = true) ∧
     ((∀ bits, i ≠ .markDecoded bits) → (∀ period width, i ≠ .controlTrackPulse period width) →
       ∀ h, t.lock.hold = some h → ∃ g, s.lock.hold = some g ∧ h.tag = g.tag ∧ h.slot = g.slot ∧ (g.seen = true → h.seen = true) ∧
         (Fresh s → s.mainPower = true → s.cue.identity = .none → t.cue.identity = .none → h.seen = g.seen))) ∧
  (∀ (bits : List Bool) (s t : State), Fresh s → s.mainPower = true → s.tim.run = none → bits.length = 17 →
     (bits.filter id).length % 2 = 0 → s.mech.mode = .play ∨ s.mech.mode = .searchFwd →
     ∀ tag, tag = bitsValue (bits.take 10) → ∀ slot, slot = bitsValue ((bits.drop 10).take 6) →
     cassetteOf s tag = none ∨ (s.cue.identity = .read tag ∧ titleBySlot s tag slot = none) →
     exec (.markDecoded bits) s = .next t → t.lock.hold = some ⟨tag, slot, false⟩) ∧
  (∀ (bits : List Bool) (s t : State), s.mainPower = true → bits.length = 17 → (bits.filter id).length % 2 = 0 →
     s.mech.mode = .play ∨ s.mech.mode = .searchFwd → exec (.markDecoded bits) s = .next t →
     ∀ tag slot, t.cue.lastMark = .decoded tag slot true → t.lock.hold = some ⟨tag, slot, true⟩)

/-- WIPE-PREPARE sets the prepared flag; a WIPE without it is answered SEQUENCE, and every other request clears it (R192). The
checks of WIPE that follow, the first that holds: LOCKED with a code set and the lock LOCKED or FROZEN, STATE in TIMER-STANDBY,
BUSY with a wipe in progress, BUSY for the programmes while one runs, BUSY for the catalogue during a recording, BUSY for the
presets while the tuner is held for a recording with a preset current, and REFERENCED for the region PRESETS where a programme
or the EXT source names one. A WIPE that passes the checks of R192 is answered ACCEPTED (R193): every preset of its region is
EMPTY with its factory values, and a current source that was a preset is 0; every programme of its region is EMPTY with its
factory values and the edit buffer is closed; with the catalogue in its region no cassette, title or identity stands and the
next tag is 1; for ALL an EXT source that named a preset is 101; every record of the region is marked for writing, and the
region is named as being wiped. The last clause is for a machine with the tuner's owner VIEW and no seek. -/
def Obligations.WipeRequests : Prop :=
  (∀ s : State, Taken s → Quiet s →
     (∃ t, exec .wipePrepare s = .next t ∧ t.store.isPrepared = true ∧
       Leaves s { replied .ok [] s with store := { s.store with isPrepared := true } } t [] []) ∧
     (∀ r, s.store.isPrepared = false → Refuses (.wipe r) s .sequence) ∧
     (∀ r, s.store.isPrepared = true → 3 < r → Refuses (.wipe r) s .range)) ∧
  (∀ (k : Nat) (s : State), Taken s → Quiet s → s.store.isPrepared = true → k ≤ 3 →
     (s.settings.lockCode.isSome = true → s.lock.state = .locked ∨ s.lock.state = .frozen → Refuses (.wipe k) s .locked) ∧
     (s.settings.lockCode = none ∨ (s.lock.state ≠ .locked ∧ s.lock.state ≠ .frozen) →
       (s.hold.power = .timerStandby → Refuses (.wipe k) s .state) ∧
       (s.hold.power ≠ .timerStandby →
         (s.store.wipe.isSome = true → Refuses (.wipe k) s .busy) ∧
         (s.store.wipe = none →
           (k = 1 ∨ k = 3 → s.tim.run.isSome = true → Refuses (.wipe k) s .busy) ∧
           (k = 0 ∨ k = 2 ∨ s.tim.run = none →
             (k = 2 ∨ k = 3 → s.cat.recording.isSome = true → Refuses (.wipe k) s .busy) ∧
             (k = 0 ∨ k = 1 ∨ s.cat.recording = none →
               ∀ held : Prop, held = ((s.tun.owner = .record ∨ s.tun.owner = .timer) ∧ 1 ≤ s.tun.source ∧ s.tun.source ≤ 99) →
               (k = 0 ∨ k = 3 → held → Refuses (.wipe k) s .busy) ∧
               (k = 0 → ¬held →
                 (∃ p ∈ s.tim.programmes, p.state ≠ .empty ∧ 1 ≤ p.source ∧ p.source ≤ 99) ∨
                   (1 ≤ s.settings.extSource ∧ s.settings.extSource ≤ 99) →
                 Refuses (.wipe k) s .referenced))))))) ∧
  (∀ (k : Nat) (s : State), Taken s → Quiet s → s.store.isPrepared = true → k ≤ 3 →
     s.settings.lockCode = none ∨ s.lock.state = .unlocked → s.hold.power ≠ .timerStandby → s.store.wipe = none →
     s.tim.run = none → s.cat.recording = none → s.tun.owner = .view → s.tun.scan = none → s.cue.seek = none →
     (k = 0 → (∀ p ∈ s.tim.programmes, p.state = .empty ∨ isPreset p.source = false) ∧ isPreset s.settings.extSource = false) →
     ∃ t, exec (.wipe k) s = .next t ∧ t.link.buffer = .ready ⟨.accepted, []⟩ ∧
       t.store.wipe.map (·.region) = some (if k = 0 then .presets else if k = 1 then .programmes else if k = 2 then .catalogue
         else .all) ∧
       (k = 0 ∨ k = 3 → wiping t .presets = true ∧
         t.tun = { s.tun with
           presets := List.replicate 99 ⟨false, .low, 0, 0, true, 0, false, false, []⟩
           source := if isPreset s.tun.source = true then 0 else s.tun.source } ∧
         ∀ n, 1 ≤ n → n ≤ 99 → Awaits (.preset n) t) ∧
       (k = 1 ∨ k = 3 → wiping t .programmes = true ∧ t.tim.edit = none ∧
         t.tim.programmes = List.replicate 16
           (Programme.mk .empty .once 0 0 0 1 .std false 0 none none ⟨.none, ⟨false, false, false⟩, none⟩) ∧
         ∀ n, n < 16 → Awaits (.programme n) t) ∧
       (k = 2 ∨ k = 3 → wiping t .catalogue = true ∧ t.cat.cassettes = [] ∧ t.cat.pool = List.replicate 256 none ∧
         t.cat.thisLoad = [] ∧ t.cue.identity = .none ∧
         (∀ n, n < 48 → Awaits (.cassette n) t) ∧ ∀ n, n < 256 → Awaits (.title n) t) ∧
       (k ≠ 0 → k ≠ 3 → t.tun = s.tun) ∧ (k ≠ 1 → k ≠ 3 → t.tim.programmes = s.tim.programmes ∧ t.tim.edit = s.tim.edit) ∧
       (k ≠ 2 → k ≠ 3 → t.cat.pool = s.cat.pool ∧ t.cat.cassettes = s.cat.cassettes ∧ t.cue = s.cue) ∧
       t.settings = { s.settings with
         extSource := if k = 3 ∧ isPreset s.settings.extSource = true then 101 else s.settings.extSource
         nextTag := if 2 ≤ k then 1 else s.settings.nextTag } ∧
       t.lock.state = s.lock.state ∧ t.hold = s.hold ∧ t.mech = s.mech ∧ t.store.isPrepared = false ∧ Fresh t)

/-- A write completes (R189): the stored copy becomes what was copied as the write started, and is undamaged; the record at the
head of the queue is written next, as it stands; with no write in flight nothing happens, by the model (log entry 16). A
write that started before a wipe was accepted, or with no wipe in progress, does not touch the wipe (R194). The last write
of a wipe completes it: the region is no longer named as being wiped, and WIPED is raised with the region (R194). -/
def Obligations.WritesComplete : Prop :=
  (∀ s : State, s.mainPower = true → Quiet s →
     (s.store.flight = none → s.store.queue = [] → Becomes .storeWriteComplete s s [] []) ∧
     (∀ f, s.store.flight = some f → f.afterWipe = false ∨ s.store.wipe = none →
       ∃ t, exec .storeWriteComplete s = .next t ∧ t.store.stored = s.store.stored.put f.copy ∧
         f.copy.id ∉ t.store.damaged ∧ (∀ r, r ≠ f.copy.id → (r ∈ t.store.damaged ↔ r ∈ s.store.damaged)) ∧
         t.store.wipe = s.store.wipe ∧ t.settings = s.settings ∧ t.tun = s.tun ∧ t.cat.pool = s.cat.pool ∧ t.hold = s.hold ∧
         t.tim.programmes = s.tim.programmes ∧ t.mech = s.mech ∧ t.store.queue = s.store.queue.tail ∧
         (s.store.queue = [] → t.store.flight = none) ∧
         (∀ r rest, s.store.queue = r :: rest → t.store.flight = some ⟨copyOf s r, true⟩))) ∧
  (∀ s : State, s.mainPower = true → Quiet s → ∀ f, s.store.flight = some f → f.afterWipe = true →
     ∀ w, s.store.wipe = some w →
     (w.left = [f.copy.id] →
       ∃ t, exec .storeWriteComplete s = .next t ∧ t.store.wipe = none ∧
         (t.link.notices.get .store).map (fun n => (n.reason, n.detail)) = some (wipedReason, regionCode w.region)) ∧
     (∀ r, r ∈ w.left → r ≠ f.copy.id →
       ∃ t, exec .storeWriteComplete s = .next t ∧
         (∃ u, t.store.wipe = some u ∧ u.region = w.region ∧ r ∈ u.left ∧ f.copy.id ∉ u.left) ∧ t.link.notices.get .store = s.link.notices.get .store))

/-! ### Events of the deck (chapters 1 to 3) -/

/-- A cassette is drawn in (R2): the cassette-in switch becoming active in EMPTY starts LOADING, in every deck power state and
with or without a dew lock; in another mode it is noted and has no effect (R6). While the power warning is active it is
noted alone, and LOADING does not start, by the model's reading of R29 (log entry 19). LOADING completes (R2, R32): HALTED,
and a load begins: the record tab is held as found, the position is 0 and unanchored, or 0 and exact with the BOT sensor
active; no counter zero, no measurement pair, no identity and no list of titles stands from an earlier load. A pending
target HALTED is reached. In another mode the switches are noted alone, by the model (log entry 16). The eject position is
taken to be inactive by then (log entry 18). LOADING that does not complete in 8 s is abandoned: EJECTING starts with
outcome LOAD-FAILED, and no load has begun (R2); a load that a soft reset has kept into LOADING ends as EJECTING starts, as
at any start of EJECTING (R5; log entry 35). Outside LOADING the command does nothing, by the model (log entry 16).
THREADING completes at THREAD-POS with drum lock, in whichever order they arise (R3), and then the way to the target goes
on: READY, or the threaded target by a direct change; with the drum not yet locked the cam's arrival is noted. UNTHREADING
completes at HALT-POS: HALTED (R4), and the way to the target goes on; a pending EJECT ends the load and starts EJECTING
(R5, R7). EJECTING completes at the eject position (R5): EMPTY, and the EJECT target is reported DONE. By the model,
EJECTING-COMPLETE makes cassette-in and carriage-down inactive (log entry 18), outside EJECTING it does nothing (log entry
16), and DRUM-LOCK is taken whatever the count of revolutions (log entry 15). -/
def Obligations.MotionsComplete : Prop :=
  (∀ s : State, s.mainPower = true → Quiet s → ∀ p, p = { s with pins := { s.pins with cassetteIn := true } } →
     (s.mech.mode = .empty → s.pins.powerWarning = false →
       Becomes .cassetteIn s (entered .loading p) [] []) ∧
     (s.mech.mode = .empty → s.pins.powerWarning = true → Becomes .cassetteIn s p [] []) ∧
     (s.mech.mode ≠ .empty → Becomes .cassetteIn s p [] [])) ∧
  (∀ (tab bot : Bool) (s : State), s.mainPower = true → s.tim.run = none → s.mech.cause = .none →
     (s.mech.mode = .loading → s.mech.target = none ∨ s.mech.target = some ⟨.halted, .host⟩ →
       ∃ t, exec (.loadingComplete tab bot) s = .next t ∧ Fresh t ∧ t.mech.mode = .halted ∧ t.mech.tab = tab ∧
         t.mech.target = none ∧
         (s.mech.target = some ⟨.halted, .host⟩ → t.mech.outcome = .done ∧
           (t.link.notices.get .motion).map (·.reason) = some (outcomeCode .done)) ∧
         (s.mech.target = none → t.mech.outcome = s.mech.outcome) ∧
         t.mech.detected = s.settings.recordSpeed ∧
         t.pos.place = some ⟨0, if bot then .exact else .unanchored⟩ ∧ t.pos.zero = none ∧ t.pos.pair = none ∧
         t.pos.takeUpLast = none ∧ t.cue.identity = .none ∧ t.cue.titlesOpened = false ∧ t.cue.lastMark = .absent ∧
         t.cat.thisLoad = [] ∧ t.cat.recording = none ∧ t.lock.hold = none ∧ t.mech.motionTimer = none ∧
         t.cat.pool = s.cat.pool ∧ (bot = false → t.cat.cassettes = s.cat.cassettes) ∧ t.settings = s.settings ∧
         t.tun = s.tun ∧ t.hold = s.hold ∧ t.tim.programmes = s.tim.programmes ∧ t.pins.carriageDown = true) ∧
     (s.mech.mode ≠ .loading →
       Becomes (.loadingComplete tab bot) s
         { s with pins := { s.pins with carriageDown := true, ejectPosition := false, recordTab := tab, bot := bot } } [] [])) ∧
  (∀ s : State, s.mainPower = true → s.tim.run = none → s.mech.target = none → s.cue.seek = none →
     (s.mech.mode = .loading → s.pos.place = none →
       Becomes .loadingTimeout s (ending .loadFailed (entered .ejecting s)) [motionReport .loadFailed] []) ∧
     (s.mech.mode = .loading → s.pos.place.isSome = true →
       ∃ t, exec .loadingTimeout s = .next t ∧ Fresh t ∧ t.mech.mode = .ejecting ∧ t.mech.outcome = .loadFailed ∧
         t.pos.place = none ∧ t.mech.tab = false ∧ t.cue.identity = .none ∧ t.cat.thisLoad = [] ∧ t.cat.pool = s.cat.pool) ∧
     (s.mech.mode ≠ .loading → Becomes .loadingTimeout s s [] [])) ∧
  (∀ s : State, s.mainPower = true → s.tim.run = none → s.mech.mode = .threading →
     ∀ p, p = { s with pins := { s.pins with cam := .threadPos } } →
     (s.mech.drumLock = false → s.mech.target.map (·.mode) ≠ some .threading → Becomes .threadingComplete s p [] []) ∧
     (s.mech.drumLock = true → s.mech.target = none → Becomes .threadingComplete s (entered .ready p) [] []) ∧
     (s.mech.drumLock = true → s.mech.target = some ⟨.play, .host⟩ → s.mech.cause = .none →
       Becomes .threadingComplete s (aiming none (ending .done (entered .play (entered .ready p)))) [motionReport .done] []) ∧
     (s.pins.cam = .threadPos → s.mech.target = some ⟨.ready, .host⟩ → s.mech.cause = .none →
       Becomes .drumLock s
         (aiming none (ending .done (entered .ready { s with mech := { s.mech with drumCount := 8, drumLock := true, drumTimer := none } })))
         [motionReport .done] [])) ∧
  (∀ s : State, s.mainPower = true → s.tim.run = none → s.mech.mode = .unthreading → s.mech.cause = .none →
     ∀ p, p = { s with pins := { s.pins with cam := .haltPos } } →
     (s.mech.target = none → Becomes .unthreadingComplete s (entered .halted p) [] []) ∧
     (s.mech.target = some ⟨.halted, .host⟩ →
       Becomes .unthreadingComplete s (aiming none (ending .done (entered .halted p))) [motionReport .done] []) ∧
     (s.mech.target = some ⟨.empty, .host⟩ →
       ∃ t, exec .unthreadingComplete s = .next t ∧ Fresh t ∧ t.mech.mode = .ejecting ∧ t.mech.target = s.mech.target ∧
         t.mech.motionTimer = some 8000 ∧ t.pos.place = none ∧ t.mech.tab = false ∧ t.cue.identity = .none ∧
         t.cat.thisLoad = [] ∧ t.cat.pool = s.cat.pool ∧ t.settings = s.settings ∧ t.tun = s.tun)) ∧
  (∀ s : State, s.mainPower = true → Quiet s → s.tim.run = none →
     ∀ p, p = { s with pins := { s.pins with ejectPosition := true, cassetteIn := false, carriageDown := false } } →
     (s.mech.mode = .ejecting → s.mech.target = some ⟨.empty, .host⟩ →
       Becomes .ejectingComplete s (aiming none (ending .done (entered .empty p))) [motionReport .done] []) ∧
     (s.mech.mode = .ejecting → s.mech.target = none → Becomes .ejectingComplete s (entered .empty p) [] []) ∧
     (s.mech.mode ≠ .ejecting → Becomes .ejectingComplete s s [] []))

/-- The limits of the motions enter FAULT (R17): THREADING with the drum not locked in 5 s with reason DRUM, with the cam not
arrived in 8 s with reason TIMEOUT (R3); UNTHREADING and EJECTING in 8 s with reason TIMEOUT (R4, R5), the stuck flag being
set where the motion belongs to an EJECT taken in FAULT (R18), whose target EMPTY, as any target of the host, is then
reported FAULT and is pending no more. A drum lock that was set and has been lost again in THREADING counts as not set, by
the model (log entry 46). The clauses are for a machine with no recording and no seek, and with no target but one of the
host. Switch changes that no motion accounts for enter FAULT with reason MECHANISM (R6): the cam leaving THREAD-POS in a
threaded mode, or HALT-POS in HALTED, FF or REW, or the carriage-down switch becoming inactive outside EMPTY, LOADING and
EJECTING. Changes of the cassette-in and eject-position switches outside EMPTY, LOADING and EJECTING, and of the record-tab
switch and the EOT sensor, are noted and have no other effect; a change of the BOT sensor is the same as BOT-ANCHOR. -/
def Obligations.MechanismFaults : Prop :=
  (∀ s : State, s.mainPower = true → s.tim.run = none → s.cue.seek = none → s.mech.cause = .none →
     (∀ g, s.mech.target = some g → g.owner = .host) →
     (s.mech.mode = .threading → s.mech.drumLock = false →
       ∃ t, exec .threadingDrumTimeout s = .next t ∧ t.mech.faultReason = some .drum ∧ t.mech.stuck = s.mech.stuck ∧
         t.mech.mode = .fault ∧ t.mech.outcome = .fault ∧ t.mech.motionTimer = none ∧ t.pos.place = s.pos.place ∧
         t.cat.pool = s.cat.pool ∧
         t.link.notices.get .fault = (noticesAfter s.link.notices [(.fault, faultCode .drum, 0)]).get .fault) ∧
     (s.mech.mode = .threading → s.pins.cam ≠ .threadPos →
       ∃ t, exec .threadingTimeout s = .next t ∧ t.mech.mode = .fault ∧ t.mech.faultReason = some .timeout ∧
         t.mech.outcome = .fault ∧ t.mech.stuck = s.mech.stuck ∧ t.pos.place = s.pos.place) ∧
     (s.mech.mode = .unthreading →
       ∃ t, exec .unthreadingTimeout s = .next t ∧ t.mech.mode = .fault ∧ t.mech.faultReason = some .timeout ∧
         t.mech.outcome = .fault ∧ t.mech.stuck = (s.mech.stuck || s.mech.faultEject) ∧ t.pos.place = s.pos.place ∧
         t.mech.target = none ∧ t.mech.faultEject = false ∧
         t.link.notices.get .motion = (noticesAfter s.link.notices [motionReport .fault]).get .motion ∧
         t.link.notices.get .fault = (noticesAfter s.link.notices [(.fault, faultCode .timeout, 0)]).get .fault) ∧
     (s.mech.mode = .ejecting →
       ∃ t, exec .ejectingTimeout s = .next t ∧ t.mech.mode = .fault ∧ t.mech.faultReason = some .timeout ∧
         t.mech.outcome = .fault ∧ t.mech.stuck = (s.mech.stuck || s.mech.faultEject) ∧
         t.mech.target = none ∧ t.mech.faultEject = false ∧
         t.link.notices.get .motion = (noticesAfter s.link.notices [motionReport .fault]).get .motion ∧
         t.link.notices.get .fault = (noticesAfter s.link.notices [(.fault, faultCode .timeout, 0)]).get .fault) ∧
     (s.mech.mode.threaded = true → s.mech.drumLock = false →
       ∃ t, exec .drumUnlockTimeout s = .next t ∧ t.mech.mode = .fault ∧ t.mech.faultReason = some .drum ∧
         t.mech.outcome = .fault ∧ t.pos.place = s.pos.place)) ∧
  (∀ s : State, s.mainPower = true → s.tim.run = none → Unclaimed s →
     (∀ c, c ≠ .threadPos → s.mech.mode.threaded = true → s.pins.cam = .threadPos →
       ∃ t, exec (.mechanismSwitchChange (.cam c)) s = .next t ∧ t.mech.mode = .fault ∧ t.mech.faultReason = some .mechanism ∧
         t.pins.cam = c) ∧
     (∀ c, c ≠ .haltPos → s.mech.mode.unthreaded = true → s.pins.cam = .haltPos →
       ∃ t, exec (.mechanismSwitchChange (.cam c)) s = .next t ∧ t.mech.mode = .fault ∧ t.mech.faultReason = some .mechanism ∧
         t.pins.cam = c) ∧
     (s.pins.carriageDown = true → s.mech.mode ≠ .empty → s.mech.mode ≠ .loading → s.mech.mode ≠ .ejecting →
       ∃ t, exec (.mechanismSwitchChange (.carriageDown false)) s = .next t ∧ t.mech.mode = .fault ∧
         t.mech.faultReason = some .mechanism ∧ t.pins.carriageDown = false) ∧
     (s.mech.mode ≠ .empty → s.mech.mode ≠ .loading → s.mech.mode ≠ .ejecting →
       (∀ a, Becomes (.mechanismSwitchChange (.cassetteIn a)) s { s with pins := { s.pins with cassetteIn := a } } [] []) ∧
       (∀ a, Becomes (.mechanismSwitchChange (.ejectPosition a)) s { s with pins := { s.pins with ejectPosition := a } } [] [])) ∧
     (∀ a, Becomes (.mechanismSwitchChange (.recordTab a)) s { s with pins := { s.pins with recordTab := a } } [] []) ∧
     (∀ a, exec (.mechanismSwitchChange (.bot a)) s = exec (.botAnchor a) s) ∧
     (∀ a, Becomes (.mechanismSwitchChange (.eot a)) s { s with pins := { s.pins with eot := a } } [] []))

/-- Dew (R19) sets the dew lock and stops the 120 s wait: FF and REW halt, a threaded mode unthreads, with outcome DEW; in
HALTED the outcome is DEW too, by the model (log entry 22); FAULT with reason DEW follows MOTION. Its end starts the wait,
whose expiry clears the lock, with DEW-CLEAR; that of a stopped timer does nothing, by the model (log entry 16). The reel watch
runs out (R21): with the sensor ahead active FF and REW halt, PLAY and both SEARCH modes go to READY, with outcome TAPE-END
(PLAY with auto-rewind on rewinds), and a recording ends with it in READY, its title closed; with that sensor inactive,
whatever the other shows, FAULT with reason REEL. The idle limits (R22): STILL changes to READY, READY sets out for HALTED, and
REC-PAUSE changes to READY, its recording ended and the tuner given back where the recording holds it (R28, R117; log entries
25 and 59), each with outcome AUTO-STOP. Drum lock (R23): a revolution within 1 % counts, the eighth in a row sets the flag;
one outside clears count and flag, and starts the 5 s of a threaded mode where the flag was set. The control track (R24, R25,
R56, R57): each pulse in PLAY clears NO-CTL and restarts the 3 s, and is measured unless it is the first after a switch. A
period within 2 % counts in-window and clears the other count, the eighth in a row locking the capstan and setting the detected
speed; one outside clears lock and in-window count, the eighth switching the capstan. CAPSTAN-LOCK and CAPSTAN-SPEED-SWITCH are
such pulses whatever the counts, by the model (log entry 15). A pulse of less than 45 % is SHORT: eight in a row open the data, whose
bits follow. Memory stop (R42, R22): a step in REW or SEARCH-REV that takes P from above Z to at or below it stops the tape in
HALTED or READY with outcome MEMORY-STOP. The protection limit (R27, R97): the counting step in REC that brings P to 4F HU
before a protected title ends the recording in READY with outcome PROTECT-LIMIT, the tuner given back likewise. -/
def Obligations.TapeIsStopped : Prop :=
  (∀ s : State, s.mainPower = true → s.tim.run = none →
     ∀ u, u = { s with pins := { s.pins with dew := true }, mech := { s.mech with dewLock := true, dewWait := none } } →
     (Unclaimed s → s.mech.mode = .halted →
       Becomes .dewActive s (ending .dew u) [motionReport .dew, (.fault, dewReason, 0)] []) ∧
     (Unclaimed s → s.mech.mode.winding = true →
       Becomes .dewActive s (ending .dew (entered .halted u)) [motionReport .dew, (.fault, dewReason, 0)] []) ∧
     (Unclaimed s → s.mech.mode.idleThreaded = true → s.pins.cam = .threadPos →
       Becomes .dewActive s (ending .dew (entered .unthreading u)) [motionReport .dew, (.fault, dewReason, 0)] []) ∧
     Becomes .dewInactive s
       { s with pins := { s.pins with dew := false }, mech := { s.mech with dewWait := some 120000 } } [] [] ∧
     (s.mech.dewWait.isSome = true →
       Becomes .dewWaitExpiry s { s with mech := { s.mech with dewWait := none, dewLock := false } }
         [(.fault, dewClearReason, 0)] []) ∧
     (s.mech.dewWait = none → Becomes .dewWaitExpiry s s [] [])) ∧
  (∀ s : State, s.mainPower = true → s.tim.run = none → Unclaimed s → s.mech.reelWatch.isSome = true →
     (s.mech.mode = .ff → s.pins.eot = true →
       Becomes .reelWatchExpiry s (ending .tapeEnd (entered .halted s)) [motionReport .tapeEnd] []) ∧
     (s.mech.mode = .rew → s.pins.bot = true →
       Becomes .reelWatchExpiry s (ending .tapeEnd (entered .halted s)) [motionReport .tapeEnd] []) ∧
     (s.mech.mode = .searchRev → s.pins.bot = true →
       Becomes .reelWatchExpiry s (ending .tapeEnd (entered .ready s)) [motionReport .tapeEnd] []) ∧
     (s.mech.mode = .searchFwd → s.pins.eot = true →
       Becomes .reelWatchExpiry s (ending .tapeEnd (entered .ready s)) [motionReport .tapeEnd] []) ∧
     (s.mech.mode = .play → s.pins.eot = true → s.settings.autoRewind = false →
       Becomes .reelWatchExpiry s (ending .tapeEnd (entered .ready s)) [motionReport .tapeEnd] []) ∧
     (s.mech.mode = .play → s.pins.eot = true → s.settings.autoRewind = true → s.pins.cam = .threadPos →
       Becomes .reelWatchExpiry s (aiming (some ⟨.rew, .own⟩) (ending .tapeEnd (entered .unthreading s)))
         [motionReport .tapeEnd] []) ∧
     (s.mech.mode = .play ∨ s.mech.mode = .recording ∨ s.mech.mode = .searchFwd ∨ s.mech.mode = .ff → s.pins.eot = false →
       ∃ t, exec .reelWatchExpiry s = .next t ∧ t.mech.mode = .fault ∧ t.mech.faultReason = some .reel ∧
         t.mech.outcome = .fault ∧ t.pos.place = s.pos.place) ∧
     (s.mech.mode = .searchRev ∨ s.mech.mode = .rew → s.pins.bot = false →
       ∃ t, exec .reelWatchExpiry s = .next t ∧ t.mech.mode = .fault ∧ t.mech.faultReason = some .reel ∧
         t.mech.outcome = .fault ∧ t.pos.place = s.pos.place)) ∧
  (∀ s : State, s.mainPower = true → s.tim.run = none → s.mech.target = none → s.cue.seek = none →
     s.mech.reelWatch.isSome = true → s.mech.mode = .recording → s.mech.cause = .manual → s.cue.writer = .idle →
     ∀ r, s.cat.recording = some r → ∀ i, r.title = some i → ∀ x, titleAt s i = some x →
     (s.pins.eot = true →
       ∃ t, exec .reelWatchExpiry s = .next t ∧ Fresh t ∧ t.mech.mode = .ready ∧ t.mech.cause = .none ∧
         t.mech.outcome = .tapeEnd ∧ titleAt t i = some { x with isOpen := false } ∧ t.cat.recording = none ∧
         t.tun = (if s.tun.owner = .record then givenBack s else s.tun) ∧ t.settings = s.settings ∧
         (t.link.notices.get .motion).map (·.reason) = some (outcomeCode .tapeEnd)) ∧
     (s.pins.eot = false →
       ∃ t, exec .reelWatchExpiry s = .next t ∧ t.mech.mode = .fault ∧ t.mech.faultReason = some .reel ∧
         t.mech.outcome = .fault ∧ titleAt t i = some { x with isOpen := false } ∧ t.cat.recording = none)) ∧
  (∀ s : State, s.mainPower = true → s.tim.run = none → s.mech.target = none → s.cue.seek = none →
     (s.mech.mode = .still → s.mech.stillTimer.isSome = true →
       Becomes .stillLimit s (ending .autoStop (entered .ready s)) [motionReport .autoStop] []) ∧
     (s.mech.mode = .ready → s.mech.readyTimer.isSome = true → s.pins.cam = .threadPos → s.mech.cause = .none →
       Becomes .readyIdleLimit s (aiming (some ⟨.halted, .own⟩) (ending .autoStop (entered .unthreading s)))
         [motionReport .autoStop] []) ∧
     (s.mech.mode = .recPause → s.mech.recPauseTimer.isSome = true → s.mech.cause = .manual → s.cue.writer = .idle →
       ∀ r, s.cat.recording = some r → ∀ i, r.title = some i → ∀ x, titleAt s i = some x →
       ∃ t, exec .recPauseLimit s = .next t ∧ Fresh t ∧ t.mech.mode = .ready ∧ t.mech.cause = .none ∧
         t.mech.outcome = .autoStop ∧ titleAt t i = some { x with isOpen := false } ∧ t.cat.recording = none ∧
         t.tun = (if s.tun.owner = .record then givenBack s else s.tun) ∧ t.settings = s.settings ∧
         (t.link.notices.get .motion).map (·.reason) = some (outcomeCode .autoStop)) ∧
     (s.mech.stillTimer = none → Becomes .stillLimit s s [] []) ∧
     (s.mech.recPauseTimer = none → Becomes .recPauseLimit s s [] []) ∧
     (s.mech.readyTimer = none → Becomes .readyIdleLimit s s [] [])) ∧
  (∀ (period : Nat) (s : State), s.mainPower = true → Quiet s → s.mech.target = none →
     (s.mech.mode.drumOn = false → Becomes (.drumPgPulse period) s s [] []) ∧
     (s.mech.mode.drumOn = true → 99 * 1000000000 ≤ period * fr s * 100 → period * fr s * 100 ≤ 101 * 1000000000 →
       s.mech.drumCount < 7 →
       Becomes (.drumPgPulse period) s { s with mech := { s.mech with drumCount := s.mech.drumCount + 1 } } [] []) ∧
     (s.mech.mode.threaded = true → 99 * 1000000000 ≤ period * fr s * 100 → period * fr s * 100 ≤ 101 * 1000000000 →
       7 ≤ s.mech.drumCount →
       Becomes (.drumPgPulse period) s
         { s with mech := { s.mech with drumCount := 8, drumLock := true, drumTimer := none } } [] []) ∧
     (s.mech.mode.drumOn = true → period * fr s * 100 < 99 * 1000000000 ∨ 101 * 1000000000 < period * fr s * 100 →
       Becomes (.drumPgPulse period) s
         { s with mech := { s.mech with
           drumCount := 0, drumLock := false
           drumTimer := if s.mech.drumLock = true ∧ s.mech.mode.threaded = true then some 5000 else s.mech.drumTimer } } [] [])) ∧
  (∀ s : State, s.mainPower = true → Quiet s →
     ∀ switched : Mech → Mech, switched = (fun m => { m with
       capstan := if s.mech.capstan = .std then .long else .std
       inWindow := 0, outWindow := 0, capstanLock := false, unmeasured := true }) →
     (s.mech.mode = .play →
       Becomes .capstanLock s
         { s with
           mech := { s.mech with
             inWindow := 8, outWindow := 0, capstanLock := true, detected := s.mech.capstan
             ctlTimer := some 3000, noCtl := false, unmeasured := false }
           cue := { s.cue with gap := 0 } } [] []) ∧
     (s.mech.mode = .play →
       Becomes .capstanSpeedSwitch s
         { s with
           mech := switched { s.mech with ctlTimer := some 3000, noCtl := false }
           cue := { s.cue with gap := 0 } } [] []) ∧
     (s.mech.mode ≠ .play → Becomes .capstanLock s s [] [] ∧ Becomes .capstanSpeedSwitch s s [] []) ∧
     (s.mech.ctlTimer.isSome = true →
       Becomes .noCtlTimeout s { s with mech := { s.mech with noCtl := true, ctlTimer := none } } [] []) ∧
     (s.mech.ctlTimer = none → Becomes .noCtlTimeout s s [] []) ∧
     (∀ period width, s.mech.mode = .play → 45 * period ≤ width * 100 →
       s.cue.reader = .waiting ∨ (∃ n, s.cue.reader = .hunting n) →
       ∀ m, m = { s.mech with ctlTimer := some 3000, noCtl := false } →
       ∀ read : Mech → State, read = (fun n => { s with mech := n, cue := { s.cue with gap := 0, reader := .hunting 0 } }) →
       (s.mech.unmeasured = true →
         Becomes (.controlTrackPulse period width) s (read { m with unmeasured := false }) [] []) ∧
       (s.mech.unmeasured = false → 98 * 1000000000 ≤ period * fr s * 100 → period * fr s * 100 ≤ 102 * 1000000000 →
         (s.mech.inWindow < 7 → Becomes (.controlTrackPulse period width) s
           (read { m with inWindow := s.mech.inWindow + 1, outWindow := 0 }) [] []) ∧
         (7 ≤ s.mech.inWindow → s.mech.capstanLock = false → Becomes (.controlTrackPulse period width) s
           (read { m with inWindow := 8, outWindow := 0, capstanLock := true, detected := s.mech.capstan }) [] []) ∧
         (7 ≤ s.mech.inWindow → s.mech.capstanLock = true → Becomes (.controlTrackPulse period width) s
           (read { m with outWindow := 0 }) [] [])) ∧
       (s.mech.unmeasured = false → period * fr s * 100 < 98 * 1000000000 ∨ 102 * 1000000000 < period * fr s * 100 →
         (s.mech.outWindow < 7 → Becomes (.controlTrackPulse period width) s
           (read { m with inWindow := 0, capstanLock := false, outWindow := s.mech.outWindow + 1 }) [] []) ∧
         (7 ≤ s.mech.outWindow → Becomes (.controlTrackPulse period width) s (read (switched m)) [] []))) ∧
     (∀ period width, s.mech.mode = .searchFwd →
       ∀ read : Reader → State, read = (fun r => { s with cue := { s.cue with gap := 0, reader := r } }) →
       (45 * period ≤ width * 100 → s.cue.reader = .waiting ∨ (∃ n, s.cue.reader = .hunting n) →
         Becomes (.controlTrackPulse period width) s (read (.hunting 0)) [] []) ∧
       (width * 100 < 45 * period → s.cue.reader = .waiting →
         Becomes (.controlTrackPulse period width) s (read .waiting) [] []) ∧
       (∀ n, width * 100 < 45 * period → s.cue.reader = .hunting n →
         Becomes (.controlTrackPulse period width) s (read (if n < 7 then .hunting (n + 1) else .data [])) [] []) ∧
       (∀ bits, s.cue.reader = .data bits → bits.length < 16 →
         Becomes (.controlTrackPulse period width) s (read (.data (bits ++ [decide (width * 100 < 45 * period)]))) [] [])) ∧
     (∀ period width, width * 100 < 45 * period → s.mech.mode = .searchRev →
       Becomes (.controlTrackPulse period width) s
         { s with cue := { s.cue with gap := 0, shortRun := s.cue.shortRun + 1 } } [] []) ∧
     (∀ period width, s.mech.mode.reading = false → Becomes (.controlTrackPulse period width) s s [] [])) ∧
  (∀ s : State, s.mainPower = true → s.tim.run = none → s.cue.seek = none → s.mech.target = none → ∀ pl, s.pos.place = some pl →
     (s.mech.mode = .rew → s.mech.cause = .none → ∀ w, s.pos.wind = some w → ∀ c, c = max (w.c - w.reel.d) w.reel.cMin →
       ∀ q, q = (if pl.quality = .exact then .estimated else pl.quality) →
       ∀ p, p = clampP q (pl.p - ((c + w.a) / 256 : Nat)) → p ≠ pl.p →
       ∃ t, exec .rewWindStep s = .next t ∧ Fresh t ∧ t.pos.place = some ⟨p, q⟩ ∧ t.cat.pool = s.cat.pool ∧
         (∀ z, s.pos.memoryStop = true → s.pos.zero = some z → z < pl.p → p ≤ z →
           t.mech.mode = .halted ∧ t.mech.outcome = .memoryStop ∧
           (t.link.notices.get .motion).map (·.reason) = some (outcomeCode .memoryStop)) ∧
         (s.pos.memoryStop = false ∨ s.pos.zero = none ∨ (∃ z, s.pos.zero = some z ∧ (pl.p ≤ z ∨ z < p)) →
           t.mech.mode = .rew ∧ t.mech.outcome = s.mech.outcome)) ∧
     (s.mech.mode = .searchRev → s.mech.forward = false → s.mech.cause = .none →
       (pl.quality = .unanchored ∧ -1048575 < pl.p) ∨ 0 < pl.p → pl.p ≤ 1048575 →
       ∃ t, exec .countingStep s = .next t ∧ Fresh t ∧ t.pos.place = some ⟨pl.p - 1, pl.quality⟩ ∧
         (s.pos.memoryStop = true → s.pos.zero = some (pl.p - 1) → t.mech.mode = .ready ∧ t.mech.outcome = .memoryStop) ∧
         (s.pos.memoryStop = false ∨ s.pos.zero ≠ some (pl.p - 1) →
           t.mech.mode = .searchRev ∧ t.mech.outcome = s.mech.outcome)) ∧
     (s.mech.mode = .recording → s.mech.forward = true → s.mech.cause = .manual → s.cue.writer = .idle →
       pl.quality ≠ .unanchored → 0 ≤ pl.p → pl.p < 1048575 → ∀ r, s.cat.recording = some r → r.ref ≤ pl.p →
       ∀ i, r.title = some i → ∀ tag, r.tag = some tag → s.cue.identity.tag = some tag → ∀ x, titleAt s i = some x →
       x.isProtected = false → ∀ c, cassetteOf s tag = some c → ∀ j, c.titles = [i, j] → j ≠ i → ∀ y, titleAt s j = some y →
       y.anchored = true → y.isProtected = true → pl.p + 1 ≤ y.start →
       ∃ t, exec .countingStep s = .next t ∧ Fresh t ∧ t.pos.place = some ⟨pl.p + 1, pl.quality⟩ ∧ titleAt t j = some y ∧
         (y.start - 4 * fr s ≤ pl.p + 1 →
           t.mech.mode = .ready ∧ t.mech.cause = .none ∧ t.mech.outcome = .protectLimit ∧ t.cat.recording = none ∧
           titleAt t i = some { x with length := x.length + 1, isOpen := false } ∧
           t.tun = if s.tun.owner = .record then givenBack s else s.tun) ∧
         (pl.p + 1 < y.start - 4 * fr s →
           t.mech.mode = .recording ∧ t.cat.recording = s.cat.recording ∧
           titleAt t i = some { x with length := x.length + 1 })))

/-- Tach edges (R20, R44, R46): a take-up edge in a tape-moving mode restarts the reel watch with its window alone, 4 s in PLAY
and REC, 1 s in the SEARCH modes, 0.5 s in FF and REW; in a measuring mode each reel's first edge starts its measurement and
later edges are counted. A completed measurement (R44, R46, R47): a result from 1,000 to 20,000 HU is accepted, one outside
that range discarded, and the next count starts at the completing edge; an accepted take-up result replaces the last one; an
accepted supply result gives the measurement pair, Remaining_HU = floor(K × S² / 524,288) − H2 kept within 0 to 1,048,575, with
K and H2 of the table of 2.6 for the line standard and the class of the cassette named, or the default class; K, H2, D and
C_min are as that table gives them. That the completing rows are taken at any count of edges is the model's (log entry 15). The
supply clause is for no cassette named and no programme running. An FF wind step (R50): P goes up by floor((C + A) / 256), A
becomes (C + A) mod 256, and C goes up by D; a REW wind step (R51): C goes down by D, but not below C_min, P goes down by
floor((C + A) / 256), and A becomes (C + A) mod 256; an exact position becomes ESTIMATED (R36, R52), and P is kept within its
limits (R35). The clauses are for a tape with no seek, no memory stop and a position that moves; outside winding a wind step
does nothing, by the model (log entry 16). A wind start (R49), the entry into FF or REW from another mode, discards the pair
and the counts and sets C to 512 times the integer square root of floor((P + H2) × 2048 / K) with P anchored, to 32 times an
accepted take-up result without, else to 92,160. -/
def Obligations.ReelsAreCounted : Prop :=
  (∀ s : State, s.mainPower = true → Quiet s →
     (s.mech.mode = .play ∨ s.mech.mode = .recording → s.pos.takeUp = none →
       Becomes .takeUpTachEdge s
         { s with mech := { s.mech with reelWatch := some 4000 }, pos := { s.pos with takeUp := some ⟨0, 0⟩ } } [] []) ∧
     (s.mech.mode = .play ∨ s.mech.mode = .recording → ∀ m, s.pos.takeUp = some m → m.edges < 63 →
       Becomes .takeUpTachEdge s
         { s with mech := { s.mech with reelWatch := some 4000 }, pos := { s.pos with takeUp := some ⟨m.edges + 1, m.steps⟩ } }
         [] []) ∧
     (s.mech.mode = .searchFwd ∨ s.mech.mode = .searchRev → s.pos.takeUp = none →
       Becomes .takeUpTachEdge s
         { s with mech := { s.mech with reelWatch := some 1000 }, pos := { s.pos with takeUp := some ⟨0, 0⟩ } } [] []) ∧
     (s.mech.mode = .searchFwd ∨ s.mech.mode = .searchRev → ∀ m, s.pos.takeUp = some m → m.edges < 63 →
       Becomes .takeUpTachEdge s
         { s with mech := { s.mech with reelWatch := some 1000 }, pos := { s.pos with takeUp := some ⟨m.edges + 1, m.steps⟩ } }
         [] []) ∧
     (s.mech.mode.measuring = true → ∀ m, s.pos.supply = some m → m.edges < 63 →
       Becomes .supplyTachEdge s { s with pos := { s.pos with supply := some ⟨m.edges + 1, m.steps⟩ } } [] []) ∧
     (s.mech.mode.measuring = true → s.pos.supply = none →
       Becomes .supplyTachEdge s { s with pos := { s.pos with supply := some ⟨0, 0⟩ } } [] []) ∧
     (s.mech.mode.winding = true → ∀ w, s.pos.wind = some w → w.edges < 7 →
       Becomes .takeUpTachEdge s
         { s with
           mech := { s.mech with reelWatch := some 500 }
           pos := { s.pos with wind := some { w with edges := w.edges + 1 } } } [] []) ∧
     (s.mech.mode.tapeMoving = false → Becomes .takeUpTachEdge s s [] [] ∧ Becomes .supplyTachEdge s s [] [])) ∧
  ((∀ (r : Config.Reel) (n : Nat),
     remainingOf r n = max 0 (min 1048575 (((r.k * (n * n) / 524288 : Nat) : Int) - r.h2))) ∧
   (∀ s : State, (s.cue.identity = .none → reelInForce s = Config.reel s.settings.standard s.settings.defaultClass) ∧
     ∀ tag, s.cue.identity.tag = some tag → ∀ c, cassetteOf s tag = some c →
       reelInForce s = Config.reel s.settings.standard c.cls) ∧
   ([Thickness.a, .b, .c].map (Config.reel .s625) =
      [⟨11729, 43652, 89, 44698⟩, ⟨15248, 56748, 69, 44698⟩, ⟨20330, 75664, 52, 44698⟩] ∧
    [Thickness.a, .b, .c].map (Config.reel .s525) =
      [⟨13936, 36738, 75, 37617⟩, ⟨18117, 47760, 58, 37617⟩, ⟨24156, 63680, 43, 37617⟩]) ∧
   ∀ s : State, s.mainPower = true → Quiet s → s.mech.mode.measuring = true →
     (∀ m, s.pos.takeUp = some m → 1000 ≤ m.steps → m.steps ≤ 20000 →
       ∃ t, exec .takeUpMeasurementComplete s = .next t ∧ t.pos.takeUpLast = some m.steps ∧ t.pos.takeUp = some ⟨0, 0⟩ ∧
         t.pos.place = s.pos.place ∧ t.pos.pair = s.pos.pair ∧ t.cat.pool = s.cat.pool ∧ t.mech.mode = s.mech.mode) ∧
     (∀ m, s.pos.takeUp = some m → m.steps < 1000 ∨ 20000 < m.steps →
       ∃ t, exec .takeUpMeasurementComplete s = .next t ∧ t.pos.takeUpLast = s.pos.takeUpLast ∧ t.pos.takeUp = some ⟨0, 0⟩) ∧
     (∀ m, s.pos.supply = some m → ∀ pl, s.pos.place = some pl → 1000 ≤ m.steps → m.steps ≤ 20000 → s.cue.identity = .none →
       s.tim.run = none →
       Becomes .supplyMeasurementComplete s
         { s with pos := { s.pos with supply := some ⟨0, 0⟩, pair := some ⟨remainingOf (reelInForce s) m.steps, pl.p⟩ } } [] []) ∧
     (∀ m, s.pos.supply = some m → ∀ pl, s.pos.place = some pl → m.steps < 1000 ∨ 20000 < m.steps →
       Becomes .supplyMeasurementComplete s { s with pos := { s.pos with supply := some ⟨0, 0⟩ } } [] [])) ∧
  ((∀ (s : State) (old new : Mode), ∀ r, r = reelInForce s →
     (old.winding = false → new.winding = true → ∀ c, c = windCircumference s → (posModeChange old new s).pos =
         { s.pos with pair := none, supply := none, takeUp := none, wind := some ⟨c, 0, 0, r⟩ } ∧
       (∀ p, anchoredP s = some p → ∃ n, n = c / 512 ∧ c = 512 * n ∧
         ∀ v, v = (p + r.h2).toNat * 2048 / r.k → n * n ≤ v ∧ v < (n + 1) * (n + 1)) ∧
       (anchoredP s = none → ∀ t, s.pos.takeUpLast = some t → c = 32 * t) ∧
       (anchoredP s = none → s.pos.takeUpLast = none → c = 92160)) ∧
     (old.winding = true → new.winding = true → (posModeChange old new s).pos =
       { s.pos with supply := none, takeUp := none, wind := s.pos.wind.map fun w => { w with edges := 0 } }) ∧
     (old.winding = true → new.winding = false → (posModeChange old new s).pos =
       { s.pos with supply := none, takeUp := none, wind := none })) ∧
   ∀ s : State, s.mainPower = true → s.tim.run = none → s.cue.seek = none → s.pos.memoryStop = false →
     ∀ w, s.pos.wind = some w → ∀ pl, s.pos.place = some pl →
     (s.mech.mode = .ff →
       ∃ t, exec .ffWindStep s = .next t ∧ ∃ q,
         q = (if pl.quality = .unanchored then Quality.unanchored else .estimated) ∧
         t.pos.place = some ⟨clampP q (pl.p + ((w.c + w.a) / 256 : Nat)), q⟩ ∧
         t.pos.wind = some ⟨w.c + w.reel.d, (w.c + w.a) % 256, 0, w.reel⟩ ∧ t.mech.reelWatch = some 500 ∧
         t.mech.mode = .ff ∧ t.cue = s.cue ∧ t.cat.pool = s.cat.pool ∧ t.settings = s.settings ∧ Fresh t) ∧
     (s.mech.mode = .rew →
       ∃ t, exec .rewWindStep s = .next t ∧ ∃ c, c = max (w.c - w.reel.d) w.reel.cMin ∧ ∃ q,
         q = (if pl.quality = .unanchored then Quality.unanchored else .estimated) ∧
         t.pos.place = some ⟨clampP q (pl.p - ((c + w.a) / 256 : Nat)), q⟩ ∧
         t.pos.wind = some ⟨c, (c + w.a) % 256, 0, w.reel⟩ ∧ t.mech.reelWatch = some 500 ∧
         t.mech.mode = .rew ∧ t.cue = s.cue ∧ t.cat.pool = s.cat.pool ∧ t.settings = s.settings ∧ Fresh t) ∧
     (s.mech.mode.winding = false → Becomes .ffWindStep s s [] [] ∧ Becomes .rewWindStep s s [] []))

/-- Capstan pulses (R34): in a threaded mode with a load each pulse moves the residue by 1 in the direction of the capstan, six
making a counting step; in FF and REW, and with no load, they are disregarded. A counting step (R35, R44, R46): in PLAY or
SEARCH-FWD P goes up by 1, in SEARCH-REV down by 1, within its limits, the residue returns to 0, and each measurement in
progress counts a step, held or not; a step that the limit holds outside REC changes nothing else, the gap since the last pulse
among it, by the model (log entry 26). The clauses are for a tape with no seek, no memory stop and a gap that does not end a
mark. A counting step in REC extends the open title by 1 HU and marks it for writing (R90). The statement is for an anchored
title opened at its place, with no other title ahead to be covered, no dead mark and no protection limit on the cassette. The
BOT sensor (R37, R38, R39): becoming active in a tape-moving mode in reverse, or inactive in one forward, anchors the position
at 0, EXACT, with the counter zero and the measurement pair moved along; any other change is noted. The anchor clause is for a
load with no relative titles, no open recording, no seek and no memory stop to come, whose cassettes' lists stand in the order
of R75: what it hands to the catalogue (R95) is stated in RecordingPausesAndEnds. A BOT edge in REW that arrives together with
the memory-stop crossing may be taken first or second, and P is 0 after both: taken second, the edge finds HALTED and anchors
all the same. That an edge arrives together with the crossing where no other command is acted on between the two, and not where
one is, is the model's choice (log entry 73). -/
def Obligations.PositionMoves : Prop :=
  (∀ s : State, s.mainPower = true → Quiet s →
     (s.mech.mode.threaded = true → s.pos.place.isSome = true → s.mech.forward = true → -6 < s.pos.residue + 1 →
       s.pos.residue < 5 → Becomes .capstanPulse s { s with pos := { s.pos with residue := s.pos.residue + 1 } } [] []) ∧
     (s.mech.mode.threaded = true → s.pos.place.isSome = true → s.mech.forward = false → s.pos.residue - 1 < 6 →
       -5 < s.pos.residue → Becomes .capstanPulse s { s with pos := { s.pos with residue := s.pos.residue - 1 } } [] []) ∧
     (s.mech.mode.threaded = true → s.pos.place.isSome = true → s.mech.forward = true → s.pos.residue = 5 →
       exec .capstanPulse s = exec .countingStep s) ∧
     (s.mech.mode.threaded = true → s.pos.place.isSome = true → s.mech.forward = false → s.pos.residue = -5 →
       exec .capstanPulse s = exec .countingStep s) ∧
     (s.mech.mode.threaded = false ∨ s.pos.place = none → Becomes .capstanPulse s s [] [])) ∧
  (∀ s : State, s.mainPower = true → s.tim.run = none → s.cue.seek = none → s.pos.memoryStop = false → s.cue.gap < 7 →
     ∀ pl, s.pos.place = some pl →
     ∀ u, u = { s with pos := { s.pos with
       residue := 0
       supply := s.pos.supply.map fun m => ⟨m.edges, m.steps + 1⟩
       takeUp := s.pos.takeUp.map fun m => ⟨m.edges, m.steps + 1⟩ } } →
     (s.mech.mode = .play ∨ s.mech.mode = .searchFwd → s.mech.forward = true → pl.p < 1048575 → -1048576 ≤ pl.p →
       pl.quality = .unanchored ∨ -1 ≤ pl.p →
       Becomes .countingStep s
         { u with pos := { u.pos with place := some ⟨pl.p + 1, pl.quality⟩ }, cue := { s.cue with gap := s.cue.gap + 1 } } [] []) ∧
     (s.mech.mode = .searchRev → s.mech.forward = false → pl.p ≤ 1048576 → (pl.quality = .unanchored ∧ -1048575 < pl.p) ∨ 0 < pl.p →
       Becomes .countingStep s
         { u with pos := { u.pos with place := some ⟨pl.p - 1, pl.quality⟩ }, cue := { s.cue with gap := s.cue.gap + 1 } } [] []) ∧
     (s.mech.mode.threaded = true → s.mech.mode ≠ .recording → s.mech.forward = true → pl.p = 1048575 →
       Becomes .countingStep s u [] []) ∧
     (s.mech.mode.threaded = true → s.mech.forward = false → pl.quality ≠ .unanchored → pl.p = 0 →
       Becomes .countingStep s u [] [])) ∧
  (∀ s : State, s.mainPower = true → s.mech.mode = .recording → s.mech.forward = true → s.tim.run = none → s.cue.seek = none → s.pos.memoryStop = false →
     s.cue.writer = .idle → ∀ pl, s.pos.place = some pl → pl.quality ≠ .unanchored → 0 ≤ pl.p → pl.p < 1048575 →
     ∀ r, s.cat.recording = some r → ∀ i, r.title = some i → ∀ tag, r.tag = some tag → ∀ x, titleAt s i = some x →
     ∀ c, cassetteOf s tag = some c → c.titles = [i] → c.dead = [] → s.cue.identity.tag = some tag → x.isProtected = false →
     ∃ t, exec .countingStep s = .next t ∧ Fresh t ∧ titleAt t i = some { x with length := x.length + 1 } ∧
       t.pos.place = some ⟨pl.p + 1, pl.quality⟩ ∧ t.mech = s.mech ∧ Awaits (.title i) t ∧
       (∀ j, j ≠ i → titleAt t j = titleAt s j) ∧ t.cat.cassettes = s.cat.cassettes ∧ t.cat.recording = s.cat.recording ∧
       t.settings = s.settings ∧ t.tun = s.tun) ∧
  (∀ (active : Bool) (s : State), s.mainPower = true → s.tim.run = none → ∀ pl, s.pos.place = some pl →
     (s.mech.mode.tapeMoving = false ∨ active ≠ s.mech.mode.reverse → s.crossed = false ∨ active = false →
       Becomes (.botAnchor active) s { s with pins := { s.pins with bot := active } } [] []) ∧
     ((s.mech.mode.tapeMoving = true ∧ active = s.mech.mode.reverse) ∨ (s.crossed = true ∧ active = true) →
       s.mech.mode ≠ .recording → s.cat.thisLoad = [] →
       s.cat.recording = none → (∀ c ∈ s.cat.cassettes, (orderTitles (titlesOf s c.tag)).map (·.1) = c.titles) →
       s.cue.seek = none → s.pos.memoryStop = false ∨ s.mech.mode.tapeMoving = false →
       Becomes (.botAnchor active) s
         { s with
           pins := { s.pins with bot := active }
           pos := { s.pos with
             place := some ⟨0, .exact⟩, residue := 0
             zero := s.pos.zero.map fun z => clampI 0 1048575 (z - pl.p)
             pair := s.pos.pair.map fun k => ⟨k.remaining, k.pos - pl.p⟩ } } [] [])) ∧
  (∀ s : State, s.mainPower = true → s.tim.run = none → s.cue.seek = none → s.mech.target = none → s.mech.mode = .rew →
     s.mech.cause = .none → s.crossed = false → s.pos.memoryStop = true →
     ∀ pl, s.pos.place = some pl → ∀ z, s.pos.zero = some z → ∀ w, s.pos.wind = some w →
     ∀ c, c = max (w.c - w.reel.d) w.reel.cMin → ∀ q, q = (if pl.quality = .exact then .estimated else pl.quality) →
     z < pl.p → clampP q (pl.p - ((c + w.a) / 256 : Nat)) ≤ z →
     (∃ t u, exec .rewWindStep s = .next t ∧ t.mech.mode = .halted ∧ t.mech.outcome = .memoryStop ∧
       exec (.botAnchor true) t = .next u ∧ u.pos.place = some ⟨0, .exact⟩ ∧ u.mech.mode = .halted ∧
       (Taken t → ∃ v x, exec .null t = .next v ∧ exec (.botAnchor true) v = .next x ∧ x.pos.place = t.pos.place)) ∧
     (∃ t u, exec (.botAnchor true) s = .next t ∧ t.pos.place = some ⟨0, .exact⟩ ∧ t.mech.mode = .halted ∧
       t.mech.outcome = .memoryStop ∧ exec .rewWindStep t = .next u ∧ u.pos.place = some ⟨0, .exact⟩))

/-- A mark is read (R57, R59, R61, R63, R64): with even parity the last-mark record is DECODED with its tag and slot; a tag that
no cassette record holds raises FOREIGN and changes no identity; the mark of a title of a cassette not yet identified makes
the identity READ with the report IDENTIFIED, as does the mark of an identity asserted while no title was opened; the mark
of the identity's own tag raises nothing where it is READ; and the mark of another cassette, where the identity is READ or
was asserted and a title was opened, is MIXED and is not tested. The mark of an anchored title of the slot that is no dead
mark and, on an EXACT position, starts at most 20F HU away is accepted: the anchor is applied at the title's start plus the
length of the mark, and the mark hold is seen (the clause is for a load with no relative titles and no seek); another moves
nothing. A mark of odd parity leaves the reader waiting and no more. In PLAY the pulse that completes the mark restarts the 3 s
of R25 and clears NO-CTL; that its period is not counted is the model's choice (log entry 15). -/
def Obligations.MarksAreRead : Prop :=
  ∀ (bits : List Bool) (s : State), s.mainPower = true → s.tim.run = none → bits.length = 17 →
    s.mech.mode = .play ∨ s.mech.mode = .searchFwd → ∀ tag, tag = bitsValue (bits.take 10) → ∀ slot, slot = bitsValue ((bits.drop 10).take 6) →
    ∀ heard, heard = (if s.mech.mode = .play then { s.mech with ctlTimer := some 3000, noCtl := false, unmeasured := false }
      else s.mech) →
    ((bits.filter id).length % 2 = 1 →
      Becomes (.markDecoded bits) s { s with mech := heard, cue := { s.cue with gap := 0, reader := .waiting } } [] []) ∧
    ((bits.filter id).length % 2 = 0 → cassetteOf s tag = none →
      Becomes (.markDecoded bits) s
        { s with
          mech := heard
          cue := { s.cue with gap := 0, reader := .waiting, lastMark := .decoded tag slot false }
          lock := { s.lock with hold := some ⟨tag, slot, false⟩ } } [(.cassette, foreignReason, 0)] []) ∧
    ((bits.filter id).length % 2 = 0 → ∀ c, cassetteOf s tag = some c → ∀ pl, s.pos.place = some pl →
      ∀ noted, noted = { s with
        mech := heard
        cue := { s.cue with gap := 0, reader := .waiting, lastMark := .decoded tag slot false }
        lock := { s.lock with hold := some ⟨tag, slot, false⟩ } } →
      ∀ named, named = (match s.cue.identity with
        | .none => true
        | .asserted other => other == tag || !s.cue.titlesOpened
        | .read _ => false) →
      (named = false → s.cue.identity ≠ .read tag → Becomes (.markDecoded bits) s noted [(.cassette, mixedReason, 0)] []) ∧
      ((∀ k x, titleBySlot s tag slot = some (k, x) → x.anchored = false ∨ slot ∈ c.dead.map (·.slot) ∨
          (pl.quality = .exact ∧ 20 * fr s < apart pl.p x.start)) →
        (s.cue.identity = .read tag → Becomes (.markDecoded bits) s noted [] []) ∧
        (named = true → s.cue.seek = none →
          ∃ t, exec (.markDecoded bits) s = .next t ∧ t.cue.identity = .read tag ∧ t.cue.lastMark = .decoded tag slot false ∧
            t.pos.place = s.pos.place ∧ t.pos.zero = s.pos.zero ∧ t.pos.pair = s.pos.pair ∧ t.cat.pool = s.cat.pool ∧
            t.link.notices.get .cassette = (noticesAfter s.link.notices [(.cassette, identifiedReason, 0)]).get .cassette ∧
            t.lock.hold.map (fun h => (h.tag, h.slot)) = some (tag, slot) ∧ t.mech = heard ∧ t.settings = s.settings ∧
            t.tun = s.tun ∧ Fresh t)) ∧
      (named = true ∨ s.cue.identity = .read tag → s.cue.seek = none →
        ∀ k x, titleBySlot s tag slot = some (k, x) → x.anchored = true → slot ∉ c.dead.map (·.slot) →
        (pl.quality = .exact → apart pl.p x.start ≤ 20 * fr s) → s.cat.thisLoad = [] → s.cat.recording = none →
        0 ≤ x.start → x.start ≤ 1000000 → orderTitles (titlesOf s tag) = titlesOf s tag →
        ∃ t, exec (.markDecoded bits) s = .next t ∧ t.cue.identity = .read tag ∧ t.cue.lastMark = .decoded tag slot true ∧
          t.pos.place = some ⟨x.start + (if x.speed = .long then 25 else 50), .exact⟩ ∧
          t.link.notices.get .cassette =
            (noticesAfter s.link.notices (if named = true then [(.cassette, identifiedReason, 0)] else [])).get .cassette ∧
          t.lock.hold = some ⟨tag, slot, true⟩ ∧ t.cat.pool = s.cat.pool ∧ t.mech = heard ∧ t.settings = s.settings ∧ t.tun = s.tun ∧ Fresh t))

/-- A passed mark sets the last-mark record PASSED, ends the run of SHORT pulses and takes away the mark hold (R58, R59, R187);
the writing of the last pulse of a mark leaves the writer idle, the pulse being the parity bit (R54). By the model,
MARK-PASSED outside SEARCH-REV, and MARK-COMPLETE outside REC or with no mark being written, do nothing (log entry 16), and
MARK-COMPLETE is taken at any pulse of the mark (log entry 15). The pulses of a mark (R54): eight SHORT, then the ten bits
of the tag and the six of the slot, most significant first, SHORT for 1, and a parity pulse that makes the number of 1 bits
even; so the seventeen pulses after the lead of a written mark have even parity and are read back as its tag and slot (R57). -/
def Obligations.MarksPassedAndWritten : Prop :=
  (∀ s : State, s.mainPower = true → Quiet s →
     (s.mech.mode = .searchRev →
       Becomes .markPassed s
         { s with cue := { s.cue with lastMark := .passed, shortRun := 0 }, lock := { s.lock with hold := none } } [] []) ∧
     (s.mech.mode ≠ .searchRev → Becomes .markPassed s s [] []) ∧
     (s.mech.mode = .recording → ∀ tag slot n, s.cue.writer = .writing tag slot n →
       Becomes .markComplete s
         { s with cue := { s.cue with
           writer := .idle, writePhase := 0
           written := some (if markPulse tag slot 25 = true then .short else .ordinary) } } [] []) ∧
     (s.mech.mode ≠ .recording ∨ s.cue.writer = .idle → Becomes .markComplete s s [] [])) ∧
  (∀ tag slot : Nat, tag < 1024 → slot < 64 →
     (∀ n, 1 ≤ n → n ≤ 8 → markPulse tag slot n = true) ∧
     (∀ bits, bits = (List.range 17).map (fun k => markPulse tag slot (k + 9)) →
       (bits.filter id).length % 2 = 0 ∧ bitsValue (bits.take 10) = tag ∧ bitsValue ((bits.drop 10).take 6) = slot))

/-! ### Power (chapters 1, 7, 10 and 11) -/

/-- The power warning (R29, R178): in EMPTY and HALTED it is noted and POWER is not raised; in another mode the controller
enters FAULT with reason POWER and outcome POWER-FAIL, and raises POWER with reason WARNING. When it clears, the mode is taken
from the switches and the stuck flag holds FAULT (R31), the load being kept as it was (R29). The clauses are for no recording,
seek or target. The loss of main power (R189): the queue is gone, a write in flight leaves its record as it was or damaged, and
the stored copies, the hold domain and everything else stand. The loss of the hold domain's supply takes its contents while
main power is absent; while main power feeds it, it has no effect (R129). -/
def Obligations.PowerIsLost : Prop :=
  (∀ s : State, s.mainPower = true → s.tim.run = none → Unclaimed s →
     (s.mech.mode = .empty ∨ s.mech.mode = .halted →
       Becomes .powerWarning s { s with pins := { s.pins with powerWarning := true } } [] []) ∧
     (s.mech.mode ≠ .empty → s.mech.mode ≠ .halted → s.mech.mode ≠ .fault → s.cue.writer = .idle →
       ∃ t, exec .powerWarning s = .next t ∧ t.mech.mode = .fault ∧ t.mech.faultReason = some .power ∧
         t.mech.outcome = .powerFail ∧ t.pos.place = s.pos.place ∧ t.pins.powerWarning = true ∧
         t.link.notices.get .power = (noticesAfter s.link.notices [(.power, warningReason, 0)]).get .power ∧
         t.cat.pool = s.cat.pool ∧ t.settings = s.settings) ∧
     (∃ t, exec .powerWarningClear s = .next t ∧ t.pins.powerWarning = false ∧
       t.mech.mode = (if s.mech.stuck then .fault else switchMode s.pins) ∧ t.mech.target = none ∧
       t.mech.stuck = s.mech.stuck ∧ t.settings = s.settings ∧ t.tun = s.tun ∧
       t.pos.place = s.pos.place)) ∧
  (∀ s : State,
     ∀ lost : List RecordId → State, lost = (fun d =>
       { s with mainPower := false, store := { s.store with queue := [], flight := none, damaged := d } }) →
     exec (.mainPowerLoss false) s = .next (lost s.store.damaged) ∧
     (s.store.flight = none → exec (.mainPowerLoss true) s = .next (lost s.store.damaged)) ∧
     (∀ f, s.store.flight = some f → ∃ t, exec (.mainPowerLoss true) s = .next t ∧ t = lost t.store.damaged ∧
       f.copy.id ∈ t.store.damaged ∧ ∀ r, r ≠ f.copy.id → (r ∈ t.store.damaged ↔ r ∈ s.store.damaged)) ∧
     (s.mainPower = false → exec .holdLoss s = .next { s with hold := { s.hold with intact := false } }) ∧
     (s.mainPower = true → exec .holdLoss s = .next s))

/-- The return of main power (R30, R140, R161, R181, R190, R195, R199): SETTINGS come from an undamaged stored record; a hold
domain that has lost its contents is initialised and HOLD-LOST raised, an intact one kept, a deck that was ON being OFF; the
mode is taken from the switches, as the table of R30 gives it, with the stuck flag clear, and with the power warning active
too, by the model (log entry 47); with carriage-down active a load begins, at 0, UNANCHORED or, with the BOT sensor active,
EXACT, with the record tab as found (R30, R32); the lock is LOCKED with a code and NONE without, with five attempts; the buffer
holds OK with length 0 and the feed is off; no edit buffer, programme run, search or seek stands. The statement is for a deck
that was not armed. -/
def Obligations.PowerReturns : Prop :=
  (∀ p : Inputs,
     (p.carriageDown = false → p.cassetteIn = false → switchMode p = .empty) ∧
     (p.carriageDown = false → p.cassetteIn = true → switchMode p = .loading) ∧
     (p.carriageDown = true → p.cam = .haltPos → switchMode p = .halted) ∧
     (p.carriageDown = true → p.cam ≠ .haltPos → switchMode p = .unthreading)) ∧
  ∀ (p : Inputs) (s : State), s.hold.power ≠ .timerStandby → RecordId.settings ∉ s.store.damaged →
    ∃ t, exec (.powerUp p) s = .next t ∧ Fresh t ∧ t.mainPower = true ∧ t.pins = p ∧ t.settings = s.store.stored.settings ∧
      t.mech.mode = switchMode p ∧
      t.pos.place = (if p.carriageDown then some ⟨0, if p.bot then .exact else .unanchored⟩ else none) ∧
      t.mech.tab = (p.carriageDown && p.recordTab) ∧ t.mech.stuck = false ∧ t.mech.target = none ∧ t.mech.outcome = .none ∧
      t.mech.dewLock = p.dew ∧
      t.lock.state = (if s.store.stored.settings.lockCode.isSome then .locked else .none) ∧ t.lock.attempts = 5 ∧
      t.link.buffer = .ready ⟨.ok, []⟩ ∧ t.link.feed = false ∧ t.link.sent = none ∧ t.tim.edit = none ∧ t.tim.run = none ∧
      t.tim.ext = .none ∧ t.tun.owner = .view ∧ t.tun.scan = none ∧ t.cue.seek = none ∧ t.store.wipe = none ∧
      t.store.isPrepared = false ∧ t.store.stored = s.store.stored ∧
      (s.hold.intact = true →
        t.hold = { s.hold with power := if s.hold.power = .on then .off else s.hold.power }) ∧
      (s.hold.intact = false →
        t.hold = ⟨0, 0, 0, 0, 0, 0, false, false, .none, true, .off⟩ ∧
        (t.link.notices.get .clock).map (·.reason) = some holdLostReason)

/-- The tables at power-up (R190): a damaged SETTINGS, preset or programme takes its factory value and is marked for writing,
and undamaged SETTINGS and presets stand as stored; a programme whose preset is EMPTY is DISABLED and marked; a damaged
title, and the titles of a damaged cassette, are freed, and the cassette is gone, its tag being the one that its place held
when last written, by the model (log entry 32); LOST is raised where any record was damaged. -/
def Obligations.StoreIsRestored : Prop :=
  ∀ (p : Inputs) (s : State), s.store.stored.presets.length = 99 → s.store.stored.programmes.length = 16 →
    s.store.stored.cassettes.length = 48 → s.store.stored.titles.length = 256 →
    ∃ t, exec (.powerUp p) s = .next t ∧ Fresh t ∧
      t.settings = (if RecordId.settings ∈ s.store.damaged then .factory else s.store.stored.settings) ∧
      (RecordId.settings ∈ s.store.damaged → Awaits .settings t) ∧
      (∀ n, 1 ≤ n → n ≤ 99 →
        (.preset n ∈ s.store.damaged → presetAt t n = some .factory ∧ Awaits (.preset n) t) ∧
        (.preset n ∉ s.store.damaged → presetAt t n = s.store.stored.presets[n - 1]?)) ∧
      (∀ n, n < 16 →
        (.programme n ∈ s.store.damaged → progAt t n = some .factory ∧ Awaits (.programme n) t) ∧
        (.programme n ∉ s.store.damaged → ∀ q, s.store.stored.programmes[n]? = some q → q.state ≠ .empty →
          presetEmpty t q.source = true →
          progAt t n = some { q with state := .disabled, next := none } ∧ Awaits (.programme n) t)) ∧
      (∀ n, n < 48 → .cassette n ∈ s.store.damaged →
        (∀ c ∈ t.cat.cassettes, c.place ≠ n) ∧ Awaits (.cassette n) t ∧
        ∀ c, s.store.stored.cassettes[n]? = some (some c) →
          ∀ i, i < 256 → ∀ x, s.store.stored.titles[i]? = some (some x) → x.tag = c.tag → titleAt t i = none) ∧
      (∀ i, i < 256 → .title i ∈ s.store.damaged → titleAt t i = none ∧ Awaits (.title i) t) ∧
      (s.store.damaged.any (fun r => match r with
          | .settings => true
          | .preset n => decide (1 ≤ n) && decide (n ≤ 99)
          | .programme n => decide (n < 16)
          | .cassette n => decide (n < 48)
          | .title n => decide (n < 256)) = true →
        (t.link.notices.get .store).map (·.reason) = some lostReason)

/-- The catalogue at power-up (R78, R190, R191): whatever the store holds, the catalogue then has the form that its laws require
(CatalogueOk). Each live title is the undamaged stored one, CLOSED, and INCOMPLETE where it was OPEN; the repair can only
cut its span (a MIXED title keeping its speed and switch offset, by the model, log entry 54), flag it TRIMMED and NO-CUE and
take its slot. Each cassette record is the undamaged stored one of its place, but for its lists of titles and of dead marks,
and each undamaged tag keeps a record. Where no cassette or title is damaged and the stored catalogue has that form, it
stands as stored but for the OPEN titles, and with nothing damaged LOST is not raised. -/
def Obligations.CatalogueIsRepaired : Prop :=
  ∀ (p : Inputs) (s : State), s.store.stored.presets.length = 99 → s.store.stored.programmes.length = 16 →
    s.store.stored.cassettes.length = 48 → s.store.stored.titles.length = 256 →
    ∃ t, exec (.powerUp p) s = .next t ∧ CatalogueOk t ∧
      (∀ i x, titleAt t i = some x → .title i ∉ s.store.damaged ∧ ∃ y, s.store.stored.titles[i]? = some (some y) ∧
        x = { y with
          isOpen := false, incomplete := y.incomplete || y.isOpen
          start := x.start, length := x.length, trimmed := x.trimmed, noCue := x.noCue, slot := x.slot } ∧
        y.start ≤ x.start ∧ x.stop ≤ y.stop ∧ (x.start = y.start ∧ x.stop = y.stop ∨ x.trimmed = true) ∧
        (x.start ≠ y.start → x.noCue = true) ∧ (x.slot = y.slot ∨ x.slot = none ∧ x.noCue = true)) ∧
      (∀ c ∈ t.cat.cassettes, .cassette c.place ∉ s.store.damaged ∧
        ∃ d, s.store.stored.cassettes[c.place]? = some (some d) ∧
          c = { d with place := c.place, titles := c.titles, dead := c.dead }) ∧
      (∀ n, n < 48 → .cassette n ∉ s.store.damaged → ∀ d, s.store.stored.cassettes[n]? = some (some d) →
        ∃ c ∈ t.cat.cassettes, c.tag = d.tag) ∧
      (CatalogueOk { s with cat := { s.cat with cassettes := storedCassettes s, pool := s.store.stored.titles } } →
        (∀ n, n < 48 → .cassette n ∉ s.store.damaged) → (∀ i, i < 256 → .title i ∉ s.store.damaged) →
        (∀ c, c ∈ t.cat.cassettes ↔ c ∈ storedCassettes s) ∧
        t.cat.pool = s.store.stored.titles.map (Option.map fun x =>
          { x with isOpen := false, incomplete := x.incomplete || x.isOpen }) ∧
        (s.store.damaged = [] → t.link.notices.get .store = none))
end

