-- ==== Sys2Proof/Decode.lean ====
section
/-! DEFINITION. The command that a word spells. No row of the table gives bits: the requests are spelled by frames of bytes
(11.8, 11.9), which `Sys2Proof.Machine.parseFrame` reads and `Sys2Proof.Machine.Instr.frame` writes. -/

namespace Sys2Proof

/-- No word spells a command: the table gives none of its rows bits. -/
def decodeTableWord (_nbits _w : Nat) : Option Instr := none

end Sys2Proof
end

