-- ==== Sys2Proof/Laws/State.lean ====
section
/-! SUPPORT. One lemma for each field of the state and each update of one block, so that no later proof unfolds a record
update. -/

namespace Sys2Proof.Machine

@[simp] theorem State.onMech_pins (s : State) (f : Mech → Mech) : (s.onMech f).pins = s.pins := rfl
@[simp] theorem State.onMech_mainPower (s : State) (f : Mech → Mech) : (s.onMech f).mainPower = s.mainPower := rfl
@[simp] theorem State.onMech_mech (s : State) (f : Mech → Mech) : (s.onMech f).mech = f s.mech := rfl
@[simp] theorem State.onMech_pos (s : State) (f : Mech → Mech) : (s.onMech f).pos = s.pos := rfl
@[simp] theorem State.onMech_cue (s : State) (f : Mech → Mech) : (s.onMech f).cue = s.cue := rfl
@[simp] theorem State.onMech_cat (s : State) (f : Mech → Mech) : (s.onMech f).cat = s.cat := rfl
@[simp] theorem State.onMech_tun (s : State) (f : Mech → Mech) : (s.onMech f).tun = s.tun := rfl
@[simp] theorem State.onMech_hold (s : State) (f : Mech → Mech) : (s.onMech f).hold = s.hold := rfl
@[simp] theorem State.onMech_tim (s : State) (f : Mech → Mech) : (s.onMech f).tim = s.tim := rfl
@[simp] theorem State.onMech_lock (s : State) (f : Mech → Mech) : (s.onMech f).lock = s.lock := rfl
@[simp] theorem State.onMech_store (s : State) (f : Mech → Mech) : (s.onMech f).store = s.store := rfl
@[simp] theorem State.onMech_settings (s : State) (f : Mech → Mech) : (s.onMech f).settings = s.settings := rfl
@[simp] theorem State.onMech_link (s : State) (f : Mech → Mech) : (s.onMech f).link = s.link := rfl
@[simp] theorem State.onMech_agenda (s : State) (f : Mech → Mech) : (s.onMech f).agenda = s.agenda := rfl
@[simp] theorem State.onMech_openCount (s : State) (f : Mech → Mech) : (s.onMech f).openCount = s.openCount := rfl
@[simp] theorem State.onMech_crossed (s : State) (f : Mech → Mech) : (s.onMech f).crossed = s.crossed := rfl
@[simp] theorem State.onMech_pending (s : State) (f : Mech → Mech) : (s.onMech f).pending = s.pending := rfl

@[simp] theorem State.onPos_pins (s : State) (f : Pos → Pos) : (s.onPos f).pins = s.pins := rfl
@[simp] theorem State.onPos_mainPower (s : State) (f : Pos → Pos) : (s.onPos f).mainPower = s.mainPower := rfl
@[simp] theorem State.onPos_mech (s : State) (f : Pos → Pos) : (s.onPos f).mech = s.mech := rfl
@[simp] theorem State.onPos_pos (s : State) (f : Pos → Pos) : (s.onPos f).pos = f s.pos := rfl
@[simp] theorem State.onPos_cue (s : State) (f : Pos → Pos) : (s.onPos f).cue = s.cue := rfl
@[simp] theorem State.onPos_cat (s : State) (f : Pos → Pos) : (s.onPos f).cat = s.cat := rfl
@[simp] theorem State.onPos_tun (s : State) (f : Pos → Pos) : (s.onPos f).tun = s.tun := rfl
@[simp] theorem State.onPos_hold (s : State) (f : Pos → Pos) : (s.onPos f).hold = s.hold := rfl
@[simp] theorem State.onPos_tim (s : State) (f : Pos → Pos) : (s.onPos f).tim = s.tim := rfl
@[simp] theorem State.onPos_lock (s : State) (f : Pos → Pos) : (s.onPos f).lock = s.lock := rfl
@[simp] theorem State.onPos_store (s : State) (f : Pos → Pos) : (s.onPos f).store = s.store := rfl
@[simp] theorem State.onPos_settings (s : State) (f : Pos → Pos) : (s.onPos f).settings = s.settings := rfl
@[simp] theorem State.onPos_link (s : State) (f : Pos → Pos) : (s.onPos f).link = s.link := rfl
@[simp] theorem State.onPos_agenda (s : State) (f : Pos → Pos) : (s.onPos f).agenda = s.agenda := rfl
@[simp] theorem State.onPos_openCount (s : State) (f : Pos → Pos) : (s.onPos f).openCount = s.openCount := rfl
@[simp] theorem State.onPos_crossed (s : State) (f : Pos → Pos) : (s.onPos f).crossed = s.crossed := rfl
@[simp] theorem State.onPos_pending (s : State) (f : Pos → Pos) : (s.onPos f).pending = s.pending := rfl

@[simp] theorem State.onCue_pins (s : State) (f : Cue → Cue) : (s.onCue f).pins = s.pins := rfl
@[simp] theorem State.onCue_mainPower (s : State) (f : Cue → Cue) : (s.onCue f).mainPower = s.mainPower := rfl
@[simp] theorem State.onCue_mech (s : State) (f : Cue → Cue) : (s.onCue f).mech = s.mech := rfl
@[simp] theorem State.onCue_pos (s : State) (f : Cue → Cue) : (s.onCue f).pos = s.pos := rfl
@[simp] theorem State.onCue_cue (s : State) (f : Cue → Cue) : (s.onCue f).cue = f s.cue := rfl
@[simp] theorem State.onCue_cat (s : State) (f : Cue → Cue) : (s.onCue f).cat = s.cat := rfl
@[simp] theorem State.onCue_tun (s : State) (f : Cue → Cue) : (s.onCue f).tun = s.tun := rfl
@[simp] theorem State.onCue_hold (s : State) (f : Cue → Cue) : (s.onCue f).hold = s.hold := rfl
@[simp] theorem State.onCue_tim (s : State) (f : Cue → Cue) : (s.onCue f).tim = s.tim := rfl
@[simp] theorem State.onCue_lock (s : State) (f : Cue → Cue) : (s.onCue f).lock = s.lock := rfl
@[simp] theorem State.onCue_store (s : State) (f : Cue → Cue) : (s.onCue f).store = s.store := rfl
@[simp] theorem State.onCue_settings (s : State) (f : Cue → Cue) : (s.onCue f).settings = s.settings := rfl
@[simp] theorem State.onCue_link (s : State) (f : Cue → Cue) : (s.onCue f).link = s.link := rfl
@[simp] theorem State.onCue_agenda (s : State) (f : Cue → Cue) : (s.onCue f).agenda = s.agenda := rfl
@[simp] theorem State.onCue_openCount (s : State) (f : Cue → Cue) : (s.onCue f).openCount = s.openCount := rfl
@[simp] theorem State.onCue_crossed (s : State) (f : Cue → Cue) : (s.onCue f).crossed = s.crossed := rfl
@[simp] theorem State.onCue_pending (s : State) (f : Cue → Cue) : (s.onCue f).pending = s.pending := rfl

@[simp] theorem State.onCat_pins (s : State) (f : Cat → Cat) : (s.onCat f).pins = s.pins := rfl
@[simp] theorem State.onCat_mainPower (s : State) (f : Cat → Cat) : (s.onCat f).mainPower = s.mainPower := rfl
@[simp] theorem State.onCat_mech (s : State) (f : Cat → Cat) : (s.onCat f).mech = s.mech := rfl
@[simp] theorem State.onCat_pos (s : State) (f : Cat → Cat) : (s.onCat f).pos = s.pos := rfl
@[simp] theorem State.onCat_cue (s : State) (f : Cat → Cat) : (s.onCat f).cue = s.cue := rfl
@[simp] theorem State.onCat_cat (s : State) (f : Cat → Cat) : (s.onCat f).cat = f s.cat := rfl
@[simp] theorem State.onCat_tun (s : State) (f : Cat → Cat) : (s.onCat f).tun = s.tun := rfl
@[simp] theorem State.onCat_hold (s : State) (f : Cat → Cat) : (s.onCat f).hold = s.hold := rfl
@[simp] theorem State.onCat_tim (s : State) (f : Cat → Cat) : (s.onCat f).tim = s.tim := rfl
@[simp] theorem State.onCat_lock (s : State) (f : Cat → Cat) : (s.onCat f).lock = s.lock := rfl
@[simp] theorem State.onCat_store (s : State) (f : Cat → Cat) : (s.onCat f).store = s.store := rfl
@[simp] theorem State.onCat_settings (s : State) (f : Cat → Cat) : (s.onCat f).settings = s.settings := rfl
@[simp] theorem State.onCat_link (s : State) (f : Cat → Cat) : (s.onCat f).link = s.link := rfl
@[simp] theorem State.onCat_agenda (s : State) (f : Cat → Cat) : (s.onCat f).agenda = s.agenda := rfl
@[simp] theorem State.onCat_openCount (s : State) (f : Cat → Cat) : (s.onCat f).openCount = s.openCount := rfl
@[simp] theorem State.onCat_crossed (s : State) (f : Cat → Cat) : (s.onCat f).crossed = s.crossed := rfl
@[simp] theorem State.onCat_pending (s : State) (f : Cat → Cat) : (s.onCat f).pending = s.pending := rfl

@[simp] theorem State.onTun_pins (s : State) (f : Tun → Tun) : (s.onTun f).pins = s.pins := rfl
@[simp] theorem State.onTun_mainPower (s : State) (f : Tun → Tun) : (s.onTun f).mainPower = s.mainPower := rfl
@[simp] theorem State.onTun_mech (s : State) (f : Tun → Tun) : (s.onTun f).mech = s.mech := rfl
@[simp] theorem State.onTun_pos (s : State) (f : Tun → Tun) : (s.onTun f).pos = s.pos := rfl
@[simp] theorem State.onTun_cue (s : State) (f : Tun → Tun) : (s.onTun f).cue = s.cue := rfl
@[simp] theorem State.onTun_cat (s : State) (f : Tun → Tun) : (s.onTun f).cat = s.cat := rfl
@[simp] theorem State.onTun_tun (s : State) (f : Tun → Tun) : (s.onTun f).tun = f s.tun := rfl
@[simp] theorem State.onTun_hold (s : State) (f : Tun → Tun) : (s.onTun f).hold = s.hold := rfl
@[simp] theorem State.onTun_tim (s : State) (f : Tun → Tun) : (s.onTun f).tim = s.tim := rfl
@[simp] theorem State.onTun_lock (s : State) (f : Tun → Tun) : (s.onTun f).lock = s.lock := rfl
@[simp] theorem State.onTun_store (s : State) (f : Tun → Tun) : (s.onTun f).store = s.store := rfl
@[simp] theorem State.onTun_settings (s : State) (f : Tun → Tun) : (s.onTun f).settings = s.settings := rfl
@[simp] theorem State.onTun_link (s : State) (f : Tun → Tun) : (s.onTun f).link = s.link := rfl
@[simp] theorem State.onTun_agenda (s : State) (f : Tun → Tun) : (s.onTun f).agenda = s.agenda := rfl
@[simp] theorem State.onTun_openCount (s : State) (f : Tun → Tun) : (s.onTun f).openCount = s.openCount := rfl
@[simp] theorem State.onTun_crossed (s : State) (f : Tun → Tun) : (s.onTun f).crossed = s.crossed := rfl
@[simp] theorem State.onTun_pending (s : State) (f : Tun → Tun) : (s.onTun f).pending = s.pending := rfl

@[simp] theorem State.onHold_pins (s : State) (f : Hold → Hold) : (s.onHold f).pins = s.pins := rfl
@[simp] theorem State.onHold_mainPower (s : State) (f : Hold → Hold) : (s.onHold f).mainPower = s.mainPower := rfl
@[simp] theorem State.onHold_mech (s : State) (f : Hold → Hold) : (s.onHold f).mech = s.mech := rfl
@[simp] theorem State.onHold_pos (s : State) (f : Hold → Hold) : (s.onHold f).pos = s.pos := rfl
@[simp] theorem State.onHold_cue (s : State) (f : Hold → Hold) : (s.onHold f).cue = s.cue := rfl
@[simp] theorem State.onHold_cat (s : State) (f : Hold → Hold) : (s.onHold f).cat = s.cat := rfl
@[simp] theorem State.onHold_tun (s : State) (f : Hold → Hold) : (s.onHold f).tun = s.tun := rfl
@[simp] theorem State.onHold_hold (s : State) (f : Hold → Hold) : (s.onHold f).hold = f s.hold := rfl
@[simp] theorem State.onHold_tim (s : State) (f : Hold → Hold) : (s.onHold f).tim = s.tim := rfl
@[simp] theorem State.onHold_lock (s : State) (f : Hold → Hold) : (s.onHold f).lock = s.lock := rfl
@[simp] theorem State.onHold_store (s : State) (f : Hold → Hold) : (s.onHold f).store = s.store := rfl
@[simp] theorem State.onHold_settings (s : State) (f : Hold → Hold) : (s.onHold f).settings = s.settings := rfl
@[simp] theorem State.onHold_link (s : State) (f : Hold → Hold) : (s.onHold f).link = s.link := rfl
@[simp] theorem State.onHold_agenda (s : State) (f : Hold → Hold) : (s.onHold f).agenda = s.agenda := rfl
@[simp] theorem State.onHold_openCount (s : State) (f : Hold → Hold) : (s.onHold f).openCount = s.openCount := rfl
@[simp] theorem State.onHold_crossed (s : State) (f : Hold → Hold) : (s.onHold f).crossed = s.crossed := rfl
@[simp] theorem State.onHold_pending (s : State) (f : Hold → Hold) : (s.onHold f).pending = s.pending := rfl

@[simp] theorem State.onTim_pins (s : State) (f : Tim → Tim) : (s.onTim f).pins = s.pins := rfl
@[simp] theorem State.onTim_mainPower (s : State) (f : Tim → Tim) : (s.onTim f).mainPower = s.mainPower := rfl
@[simp] theorem State.onTim_mech (s : State) (f : Tim → Tim) : (s.onTim f).mech = s.mech := rfl
@[simp] theorem State.onTim_pos (s : State) (f : Tim → Tim) : (s.onTim f).pos = s.pos := rfl
@[simp] theorem State.onTim_cue (s : State) (f : Tim → Tim) : (s.onTim f).cue = s.cue := rfl
@[simp] theorem State.onTim_cat (s : State) (f : Tim → Tim) : (s.onTim f).cat = s.cat := rfl
@[simp] theorem State.onTim_tun (s : State) (f : Tim → Tim) : (s.onTim f).tun = s.tun := rfl
@[simp] theorem State.onTim_hold (s : State) (f : Tim → Tim) : (s.onTim f).hold = s.hold := rfl
@[simp] theorem State.onTim_tim (s : State) (f : Tim → Tim) : (s.onTim f).tim = f s.tim := rfl
@[simp] theorem State.onTim_lock (s : State) (f : Tim → Tim) : (s.onTim f).lock = s.lock := rfl
@[simp] theorem State.onTim_store (s : State) (f : Tim → Tim) : (s.onTim f).store = s.store := rfl
@[simp] theorem State.onTim_settings (s : State) (f : Tim → Tim) : (s.onTim f).settings = s.settings := rfl
@[simp] theorem State.onTim_link (s : State) (f : Tim → Tim) : (s.onTim f).link = s.link := rfl
@[simp] theorem State.onTim_agenda (s : State) (f : Tim → Tim) : (s.onTim f).agenda = s.agenda := rfl
@[simp] theorem State.onTim_openCount (s : State) (f : Tim → Tim) : (s.onTim f).openCount = s.openCount := rfl
@[simp] theorem State.onTim_crossed (s : State) (f : Tim → Tim) : (s.onTim f).crossed = s.crossed := rfl
@[simp] theorem State.onTim_pending (s : State) (f : Tim → Tim) : (s.onTim f).pending = s.pending := rfl

@[simp] theorem State.onLock_pins (s : State) (f : Lock → Lock) : (s.onLock f).pins = s.pins := rfl
@[simp] theorem State.onLock_mainPower (s : State) (f : Lock → Lock) : (s.onLock f).mainPower = s.mainPower := rfl
@[simp] theorem State.onLock_mech (s : State) (f : Lock → Lock) : (s.onLock f).mech = s.mech := rfl
@[simp] theorem State.onLock_pos (s : State) (f : Lock → Lock) : (s.onLock f).pos = s.pos := rfl
@[simp] theorem State.onLock_cue (s : State) (f : Lock → Lock) : (s.onLock f).cue = s.cue := rfl
@[simp] theorem State.onLock_cat (s : State) (f : Lock → Lock) : (s.onLock f).cat = s.cat := rfl
@[simp] theorem State.onLock_tun (s : State) (f : Lock → Lock) : (s.onLock f).tun = s.tun := rfl
@[simp] theorem State.onLock_hold (s : State) (f : Lock → Lock) : (s.onLock f).hold = s.hold := rfl
@[simp] theorem State.onLock_tim (s : State) (f : Lock → Lock) : (s.onLock f).tim = s.tim := rfl
@[simp] theorem State.onLock_lock (s : State) (f : Lock → Lock) : (s.onLock f).lock = f s.lock := rfl
@[simp] theorem State.onLock_store (s : State) (f : Lock → Lock) : (s.onLock f).store = s.store := rfl
@[simp] theorem State.onLock_settings (s : State) (f : Lock → Lock) : (s.onLock f).settings = s.settings := rfl
@[simp] theorem State.onLock_link (s : State) (f : Lock → Lock) : (s.onLock f).link = s.link := rfl
@[simp] theorem State.onLock_agenda (s : State) (f : Lock → Lock) : (s.onLock f).agenda = s.agenda := rfl
@[simp] theorem State.onLock_openCount (s : State) (f : Lock → Lock) : (s.onLock f).openCount = s.openCount := rfl
@[simp] theorem State.onLock_crossed (s : State) (f : Lock → Lock) : (s.onLock f).crossed = s.crossed := rfl
@[simp] theorem State.onLock_pending (s : State) (f : Lock → Lock) : (s.onLock f).pending = s.pending := rfl

@[simp] theorem State.onStore_pins (s : State) (f : Store → Store) : (s.onStore f).pins = s.pins := rfl
@[simp] theorem State.onStore_mainPower (s : State) (f : Store → Store) : (s.onStore f).mainPower = s.mainPower := rfl
@[simp] theorem State.onStore_mech (s : State) (f : Store → Store) : (s.onStore f).mech = s.mech := rfl
@[simp] theorem State.onStore_pos (s : State) (f : Store → Store) : (s.onStore f).pos = s.pos := rfl
@[simp] theorem State.onStore_cue (s : State) (f : Store → Store) : (s.onStore f).cue = s.cue := rfl
@[simp] theorem State.onStore_cat (s : State) (f : Store → Store) : (s.onStore f).cat = s.cat := rfl
@[simp] theorem State.onStore_tun (s : State) (f : Store → Store) : (s.onStore f).tun = s.tun := rfl
@[simp] theorem State.onStore_hold (s : State) (f : Store → Store) : (s.onStore f).hold = s.hold := rfl
@[simp] theorem State.onStore_tim (s : State) (f : Store → Store) : (s.onStore f).tim = s.tim := rfl
@[simp] theorem State.onStore_lock (s : State) (f : Store → Store) : (s.onStore f).lock = s.lock := rfl
@[simp] theorem State.onStore_store (s : State) (f : Store → Store) : (s.onStore f).store = f s.store := rfl
@[simp] theorem State.onStore_settings (s : State) (f : Store → Store) : (s.onStore f).settings = s.settings := rfl
@[simp] theorem State.onStore_link (s : State) (f : Store → Store) : (s.onStore f).link = s.link := rfl
@[simp] theorem State.onStore_agenda (s : State) (f : Store → Store) : (s.onStore f).agenda = s.agenda := rfl
@[simp] theorem State.onStore_openCount (s : State) (f : Store → Store) : (s.onStore f).openCount = s.openCount := rfl
@[simp] theorem State.onStore_crossed (s : State) (f : Store → Store) : (s.onStore f).crossed = s.crossed := rfl
@[simp] theorem State.onStore_pending (s : State) (f : Store → Store) : (s.onStore f).pending = s.pending := rfl

@[simp] theorem State.onLink_pins (s : State) (f : Link → Link) : (s.onLink f).pins = s.pins := rfl
@[simp] theorem State.onLink_mainPower (s : State) (f : Link → Link) : (s.onLink f).mainPower = s.mainPower := rfl
@[simp] theorem State.onLink_mech (s : State) (f : Link → Link) : (s.onLink f).mech = s.mech := rfl
@[simp] theorem State.onLink_pos (s : State) (f : Link → Link) : (s.onLink f).pos = s.pos := rfl
@[simp] theorem State.onLink_cue (s : State) (f : Link → Link) : (s.onLink f).cue = s.cue := rfl
@[simp] theorem State.onLink_cat (s : State) (f : Link → Link) : (s.onLink f).cat = s.cat := rfl
@[simp] theorem State.onLink_tun (s : State) (f : Link → Link) : (s.onLink f).tun = s.tun := rfl
@[simp] theorem State.onLink_hold (s : State) (f : Link → Link) : (s.onLink f).hold = s.hold := rfl
@[simp] theorem State.onLink_tim (s : State) (f : Link → Link) : (s.onLink f).tim = s.tim := rfl
@[simp] theorem State.onLink_lock (s : State) (f : Link → Link) : (s.onLink f).lock = s.lock := rfl
@[simp] theorem State.onLink_store (s : State) (f : Link → Link) : (s.onLink f).store = s.store := rfl
@[simp] theorem State.onLink_settings (s : State) (f : Link → Link) : (s.onLink f).settings = s.settings := rfl
@[simp] theorem State.onLink_link (s : State) (f : Link → Link) : (s.onLink f).link = f s.link := rfl
@[simp] theorem State.onLink_agenda (s : State) (f : Link → Link) : (s.onLink f).agenda = s.agenda := rfl
@[simp] theorem State.onLink_openCount (s : State) (f : Link → Link) : (s.onLink f).openCount = s.openCount := rfl
@[simp] theorem State.onLink_crossed (s : State) (f : Link → Link) : (s.onLink f).crossed = s.crossed := rfl
@[simp] theorem State.onLink_pending (s : State) (f : Link → Link) : (s.onLink f).pending = s.pending := rfl

@[simp] theorem State.onPins_pins (s : State) (f : Inputs → Inputs) : (s.onPins f).pins = f s.pins := rfl
@[simp] theorem State.onPins_mainPower (s : State) (f : Inputs → Inputs) : (s.onPins f).mainPower = s.mainPower := rfl
@[simp] theorem State.onPins_mech (s : State) (f : Inputs → Inputs) : (s.onPins f).mech = s.mech := rfl
@[simp] theorem State.onPins_pos (s : State) (f : Inputs → Inputs) : (s.onPins f).pos = s.pos := rfl
@[simp] theorem State.onPins_cue (s : State) (f : Inputs → Inputs) : (s.onPins f).cue = s.cue := rfl
@[simp] theorem State.onPins_cat (s : State) (f : Inputs → Inputs) : (s.onPins f).cat = s.cat := rfl
@[simp] theorem State.onPins_tun (s : State) (f : Inputs → Inputs) : (s.onPins f).tun = s.tun := rfl
@[simp] theorem State.onPins_hold (s : State) (f : Inputs → Inputs) : (s.onPins f).hold = s.hold := rfl
@[simp] theorem State.onPins_tim (s : State) (f : Inputs → Inputs) : (s.onPins f).tim = s.tim := rfl
@[simp] theorem State.onPins_lock (s : State) (f : Inputs → Inputs) : (s.onPins f).lock = s.lock := rfl
@[simp] theorem State.onPins_store (s : State) (f : Inputs → Inputs) : (s.onPins f).store = s.store := rfl
@[simp] theorem State.onPins_settings (s : State) (f : Inputs → Inputs) : (s.onPins f).settings = s.settings := rfl
@[simp] theorem State.onPins_link (s : State) (f : Inputs → Inputs) : (s.onPins f).link = s.link := rfl
@[simp] theorem State.onPins_agenda (s : State) (f : Inputs → Inputs) : (s.onPins f).agenda = s.agenda := rfl
@[simp] theorem State.onPins_openCount (s : State) (f : Inputs → Inputs) : (s.onPins f).openCount = s.openCount := rfl
@[simp] theorem State.onPins_crossed (s : State) (f : Inputs → Inputs) : (s.onPins f).crossed = s.crossed := rfl
@[simp] theorem State.onPins_pending (s : State) (f : Inputs → Inputs) : (s.onPins f).pending = s.pending := rfl

@[simp] theorem State.freshOpen_pins (s : State) : s.freshOpen.pins = s.pins := rfl
@[simp] theorem State.freshOpen_mainPower (s : State) : s.freshOpen.mainPower = s.mainPower := rfl
@[simp] theorem State.freshOpen_mech (s : State) : s.freshOpen.mech = s.mech := rfl
@[simp] theorem State.freshOpen_pos (s : State) : s.freshOpen.pos = s.pos := rfl
@[simp] theorem State.freshOpen_cue (s : State) : s.freshOpen.cue = s.cue := rfl
@[simp] theorem State.freshOpen_cat (s : State) : s.freshOpen.cat = s.cat := rfl
@[simp] theorem State.freshOpen_tun (s : State) : s.freshOpen.tun = s.tun := rfl
@[simp] theorem State.freshOpen_hold (s : State) : s.freshOpen.hold = s.hold := rfl
@[simp] theorem State.freshOpen_tim (s : State) : s.freshOpen.tim = s.tim := rfl
@[simp] theorem State.freshOpen_lock (s : State) : s.freshOpen.lock = s.lock := rfl
@[simp] theorem State.freshOpen_store (s : State) : s.freshOpen.store = s.store := rfl
@[simp] theorem State.freshOpen_settings (s : State) : s.freshOpen.settings = s.settings := rfl
@[simp] theorem State.freshOpen_link (s : State) : s.freshOpen.link = s.link := rfl
@[simp] theorem State.freshOpen_agenda (s : State) : s.freshOpen.agenda = s.agenda := rfl
@[simp] theorem State.freshOpen_pending (s : State) : s.freshOpen.pending = s.pending := rfl
@[simp] theorem State.freshOpen_openCount (s : State) : s.freshOpen.openCount = s.openCount + 1 := rfl
@[simp] theorem State.freshOpen_crossed (s : State) : s.freshOpen.crossed = s.crossed := rfl

@[simp] theorem State.noteCrossing_pins (s : State) (b : Bool) : (s.noteCrossing b).pins = s.pins := rfl
@[simp] theorem State.noteCrossing_mainPower (s : State) (b : Bool) : (s.noteCrossing b).mainPower = s.mainPower := rfl
@[simp] theorem State.noteCrossing_mech (s : State) (b : Bool) : (s.noteCrossing b).mech = s.mech := rfl
@[simp] theorem State.noteCrossing_pos (s : State) (b : Bool) : (s.noteCrossing b).pos = s.pos := rfl
@[simp] theorem State.noteCrossing_cue (s : State) (b : Bool) : (s.noteCrossing b).cue = s.cue := rfl
@[simp] theorem State.noteCrossing_cat (s : State) (b : Bool) : (s.noteCrossing b).cat = s.cat := rfl
@[simp] theorem State.noteCrossing_tun (s : State) (b : Bool) : (s.noteCrossing b).tun = s.tun := rfl
@[simp] theorem State.noteCrossing_hold (s : State) (b : Bool) : (s.noteCrossing b).hold = s.hold := rfl
@[simp] theorem State.noteCrossing_tim (s : State) (b : Bool) : (s.noteCrossing b).tim = s.tim := rfl
@[simp] theorem State.noteCrossing_lock (s : State) (b : Bool) : (s.noteCrossing b).lock = s.lock := rfl
@[simp] theorem State.noteCrossing_store (s : State) (b : Bool) : (s.noteCrossing b).store = s.store := rfl
@[simp] theorem State.noteCrossing_settings (s : State) (b : Bool) : (s.noteCrossing b).settings = s.settings := rfl
@[simp] theorem State.noteCrossing_link (s : State) (b : Bool) : (s.noteCrossing b).link = s.link := rfl
@[simp] theorem State.noteCrossing_agenda (s : State) (b : Bool) : (s.noteCrossing b).agenda = s.agenda := rfl
@[simp] theorem State.noteCrossing_pending (s : State) (b : Bool) : (s.noteCrossing b).pending = s.pending := rfl
@[simp] theorem State.noteCrossing_openCount (s : State) (b : Bool) : (s.noteCrossing b).openCount = s.openCount := rfl
@[simp] theorem State.noteCrossing_crossed (s : State) (b : Bool) : (s.noteCrossing b).crossed = b := rfl

end Sys2Proof.Machine
end

