-- ==== Sys2Proof/Laws/Kept.lean ====
section
/-! SUPPORT. What no operation inside a step changes: the projection `State.kept` and one lemma for each operation of the
blocks. The operations that do change one of its items (a preset stored, SETTINGS written, the deck power state set) have
no lemma here where the item is in the projection. -/

namespace Sys2Proof.Machine

open Sys2Proof

/-- A lock state with an unlock taken away. -/
def LockState.shut : LockState → LockState
  | .none => .none
  | .locked => .locked
  | .unlocked => .locked
  | .frozen => .frozen

/-- The items of the state that only a request, a second event or a power event changes. -/
structure Kept where
  pins : Inputs
  mainPower : Bool
  pending : List Instr
  buffer : Buffer
  sent : Option Answer
  feed : Bool
  attempts : Nat
  shut : LockState
  settings : Settings
  presets : List Preset
  hold : Hold
  edit : Option Edit
  stored : Stored
  damaged : List RecordId
  isPrepared : Bool
  wipe : Option Wipe
  memoryStop : Bool

/-- The kept items of a state: an unlock counts as locked, the next tag and the deck power state are left out. -/
def State.kept (s : State) : Kept where
  pins := s.pins
  mainPower := s.mainPower
  pending := s.pending
  buffer := s.link.buffer
  sent := s.link.sent
  feed := s.link.feed
  attempts := s.lock.attempts
  shut := s.lock.state.shut
  settings := { s.settings with nextTag := 0 }
  presets := s.tun.presets
  hold := { s.hold with power := .off }
  edit := s.tim.edit
  stored := s.store.stored
  damaged := s.store.damaged
  isPrepared := s.store.isPrepared
  wipe := s.store.wipe
  memoryStop := s.pos.memoryStop

@[simp] theorem kept_noteCrossing (b : Bool) (s : State) : (s.noteCrossing b).kept = s.kept := rfl
@[simp] theorem kept_onMech (s : State) (f : Mech → Mech) : (s.onMech f).kept = s.kept := rfl
@[simp] theorem kept_onCue (s : State) (f : Cue → Cue) : (s.onCue f).kept = s.kept := rfl
@[simp] theorem kept_onCat (s : State) (f : Cat → Cat) : (s.onCat f).kept = s.kept := rfl
@[simp] theorem kept_onPos (s : State) (f : Pos → Pos) (h : (f s.pos).memoryStop = s.pos.memoryStop) :
    (s.onPos f).kept = s.kept := by simp [State.kept, h]
@[simp] theorem kept_onTun (s : State) (f : Tun → Tun) (h : (f s.tun).presets = s.tun.presets) :
    (s.onTun f).kept = s.kept := by simp [State.kept, h]
@[simp] theorem kept_onHold (s : State) (f : Hold → Hold)
    (h : { f s.hold with power := .off } = { s.hold with power := .off }) :
    (s.onHold f).kept = s.kept := by simp [State.kept, h]
@[simp] theorem kept_onTim (s : State) (f : Tim → Tim) (h : (f s.tim).edit = s.tim.edit) :
    (s.onTim f).kept = s.kept := by simp [State.kept, h]
@[simp] theorem kept_onLock (s : State) (f : Lock → Lock)
    (h : (f s.lock).attempts = s.lock.attempts ∧ (f s.lock).state.shut = s.lock.state.shut) :
    (s.onLock f).kept = s.kept := by simp [State.kept, h]
@[simp] theorem kept_onStore (s : State) (f : Store → Store)
    (h : { f s.store with queue := [], flight := none } = { s.store with queue := [], flight := none }) :
    (s.onStore f).kept = s.kept := by
  injection h with h1 h2 h3 h4 h5 h6
  simp [State.kept, h1, h2, h5, h6]
@[simp] theorem kept_onLink (s : State) (f : Link → Link)
    (h : { f s.link with notices := NoticeSet.empty } = { s.link with notices := NoticeSet.empty }) :
    (s.onLink f).kept = s.kept := by
  injection h with h1 h2 h3 h4
  simp [State.kept, h1, h2, h4]
@[simp] theorem kept_foldl {α : Type} (f : State → α → State) (h : ∀ s a, (f s a).kept = s.kept) :
    ∀ (xs : List α) (s : State), (xs.foldl f s).kept = s.kept
  | [], _ => rfl
  | x :: xs, s => (kept_foldl f h xs (f s x)).trans (h s x)
@[simp] theorem kept_when (c : Bool) (f : State → State) (s : State) (h : (f s).kept = s.kept) : (when c f s).kept = s.kept := by
  cases c
  · rfl
  · exact h


/-! ### Ops -/

@[simp] theorem kept_push (t : Task) (s : State) : (push t s).kept = s.kept := by unfold push; split <;> rfl
@[simp] theorem kept_raise (k : NoticeKind) (reason detail : Nat) (s : State) : (raise k reason detail s).kept = s.kept :=
  by simp [raise]
@[simp] theorem kept_report (bit : Nat) (s : State) : (report bit s).kept = s.kept := by simp [report]
@[simp] theorem kept_raiseTimer (reason slot : Nat) (r : ProgResult) (s : State) : (raiseTimer reason slot r s).kept = s.kept :=
  by simp [raiseTimer]
@[simp] theorem kept_reportMotion (o : MotionOutcome) (s : State) : (reportMotion o s).kept = s.kept :=
  by simp [reportMotion]
@[simp] theorem kept_mark (r : RecordId) (s : State) : (mark r s).kept = s.kept :=
  by unfold mark; exact kept_onStore s _ (by dsimp only; split <;> rfl)
@[simp] theorem kept_markFirst (r : RecordId) (s : State) : (markFirst r s).kept = s.kept := by simp [markFirst]
@[simp] theorem kept_setTitle (i : Nat) (v : Option Title) (s : State) : (setTitle i v s).kept = s.kept :=
  by simp [setTitle]
@[simp] theorem kept_onTitle (i : Nat) (f : Title → Title) (s : State) : (onTitle i f s).kept = s.kept := by
  simp only [onTitle]
  (repeat' split) <;> simp [*]
@[simp] theorem kept_onCassette (tag : Nat) (f : Cassette → Cassette) (s : State) : (onCassette tag f s).kept = s.kept := by
  simp only [onCassette]
  (repeat' split) <;> simp [*]
@[simp] theorem kept_setProg (slot : Nat) (v : Programme) (s : State) : (setProg slot v s).kept = s.kept :=
  by simp [setProg]
@[simp] theorem kept_onProg (slot : Nat) (f : Programme → Programme) (s : State) : (onProg slot f s).kept = s.kept := by
  simp only [onProg]
  (repeat' split) <;> simp [*]

/-! ### TapeOps -/

@[simp] theorem kept_refreshCounter (s : State) : (refreshCounter s).kept = s.kept := by
  simp only [refreshCounter]
  (repeat' split) <;> simp [*]
@[simp] theorem kept_windStart (s : State) : (windStart s).kept = s.kept := by simp [windStart]
@[simp] theorem kept_dropCounts (s : State) : (dropCounts s).kept = s.kept := by simp [dropCounts]
@[simp] theorem kept_posModeChange (old new : Mode) (s : State) : (posModeChange old new s).kept = s.kept := by
  simp only [posModeChange]
  (repeat' split) <;> simp [*]

/-! ### CatalogueOps -/

@[simp] theorem kept_reorder (tag : Nat) (s : State) : (reorder tag s).kept = s.kept := by
  simp only [reorder]
  (repeat' split) <;> simp [*]
@[simp] theorem kept_reorderAll (s : State) : (reorderAll s).kept = s.kept := by simp [reorderAll]
@[simp] theorem kept_seeHold (s : State) : (seeHold s).kept = s.kept := rfl
@[simp] theorem kept_refreshTitle (s : State) : (refreshTitle s).kept = s.kept := by
  simp only [refreshTitle]
  (repeat' split) <;> simp [*]
@[simp] theorem kept_setIdentity (new : Identity) (s : State) : (setIdentity new s).kept = s.kept := by
  simp only [setIdentity]
  (repeat' split) <;> simp [*]
@[simp] theorem kept_createCassette (s : State) : (createCassette s).kept = s.kept :=
  by simp [createCassette, setSettings]; rfl
@[simp] theorem kept_retireTitle (survives : Bool) (i : Nat) (s : State) : (retireTitle survives i s).kept = s.kept := by
  simp only [retireTitle]
  (repeat' split) <;> simp [*]
@[simp] theorem kept_retireIfShort (survives : Bool) (i : Nat) (s : State) : (retireIfShort survives i s).kept = s.kept := by
  simp only [retireIfShort]
  (repeat' split) <;> simp [*]
@[simp] theorem kept_clearDead (tag : Nat) (a b : Int) (s : State) : (clearDead tag a b s).kept = s.kept := by
  simp only [clearDead]
  (repeat' split) <;> simp [*]
@[simp] theorem kept_trimOlder (tag : Nat) (a b : Int) (i : Nat) (s : State) : (trimOlder tag a b i s).kept = s.kept := by
  simp only [trimOlder]
  (repeat' split) <;> simp [*]
@[simp] theorem kept_startCut (s : State) : (startCut s).kept = s.kept := by
  simp only [startCut]
  (repeat' split) <;> simp [*]
@[simp] theorem kept_cutMark (s : State) : (cutMark s).kept = s.kept := by
  simp only [cutMark]
  (repeat' split) <;> simp [*]
@[simp] theorem kept_askMark (tag slot : Nat) (s : State) : (askMark tag slot s).kept = s.kept := by simp [askMark]
@[simp] theorem kept_holdRecording (title : Option Nat) (s : State) : (holdRecording title s).kept = s.kept :=
  by simp [holdRecording]
@[simp] theorem kept_fillTitle (tag i : Nat) (cause : Cause) (source : Nat) (s : State) : (fillTitle tag i cause source s).kept = s.kept := by
  simp only [fillTitle]
  (repeat' split) <;> simp [*]
@[simp] theorem kept_openFor (cause : Cause) (source : Nat) (s : State) : (openFor cause source s).kept = s.kept := by
  simp only [openFor]
  (repeat' split) <;> simp [*]
@[simp] theorem kept_closeRecording (how : Closing) (s : State) : (closeRecording how s).kept = s.kept := by
  simp only [closeRecording]
  (repeat' split) <;> simp [*]
@[simp] theorem kept_setRecSpeed (v : Speed) (s : State) : (setRecSpeed v s).kept = s.kept := by
  simp only [setRecSpeed]
  (repeat' split) <;> simp [*]
@[simp] theorem kept_extendTitle (s : State) : (extendTitle s).kept = s.kept := by
  simp only [extendTitle]
  (repeat' split) <;> simp [*]
@[simp] theorem kept_trimCovered (b : Int) (s : State) : (trimCovered b s).kept = s.kept := by
  simp only [trimCovered]
  (repeat' split) <;> simp [*]
@[simp] theorem kept_rebaseMove (delta : Int) (ts : List (Nat × Title)) (s : State) : (rebaseMove delta ts s).kept = s.kept :=
  by simp [rebaseMove]
@[simp] theorem kept_rebaseShort (delta : Int) (ts : List (Nat × Title)) (s : State) : (rebaseShort delta ts s).kept = s.kept :=
  by simp [rebaseShort]
@[simp] theorem kept_rebaseTrim (i : Nat) (s : State) : (rebaseTrim i s).kept = s.kept := by
  simp only [rebaseTrim]
  (repeat' split) <;> simp [*]
@[simp] theorem kept_rebaseUncatalogued (wasRelative : Bool) (s : State) : (rebaseUncatalogued wasRelative s).kept = s.kept := by
  simp only [rebaseUncatalogued]
  (repeat' split) <;> simp [*]
@[simp] theorem kept_rebase (delta : Int) (s : State) : (rebase delta s).kept = s.kept := by simp [rebase]
@[simp] theorem kept_offerTotal (found : Int) (s : State) : (offerTotal found s).kept = s.kept := by
  simp only [offerTotal]
  (repeat' split) <;> simp [*]

/-! ### TunerOps -/

@[simp] theorem kept_setSource (n : Nat) (s : State) : (setSource n s).kept = s.kept := by
  simp only [setSource]
  (repeat' split) <;> simp [*]
@[simp] theorem kept_setAft (a : AftState) (s : State) : (setAft a s).kept = s.kept := by
  simp only [setAft]
  (repeat' split) <;> simp [*]
@[simp] theorem kept_onWorking (f : Working → Working) (s : State) : (onWorking f s).kept = s.kept :=
  by simp [onWorking]
@[simp] theorem kept_startAft (s : State) : (startAft s).kept = s.kept := by
  simp only [startAft]
  (repeat' split) <;> simp [*]
@[simp] theorem kept_resumeAft (s : State) : (resumeAft s).kept = s.kept := by simp [resumeAft]
@[simp] theorem kept_tuneTo (n : Nat) (s : State) : (tuneTo n s).kept = s.kept := by
  simp only [tuneTo]
  (repeat' split) <;> simp [*]
@[simp] theorem kept_followPreset (n : Nat) (old new : Preset) (s : State) : (followPreset n old new s).kept = s.kept := by
  simp only [followPreset]
  (repeat' split) <;> simp [*]
@[simp] theorem kept_takeTuner (o : TunerOwner) (s : State) : (takeTuner o s).kept = s.kept := by simp [takeTuner]
@[simp] theorem kept_giveBack (s : State) : (giveBack s).kept = s.kept := by
  simp only [giveBack]
  (repeat' split) <;> simp [*]
@[simp] theorem kept_releaseFrom (o : TunerOwner) (s : State) : (releaseFrom o s).kept = s.kept := by
  simp only [releaseFrom]
  (repeat' split) <;> simp [*]
@[simp] theorem kept_scanGiveBack (e : ScanEnd) (s : State) : (scanGiveBack e s).kept = s.kept :=
  by simp [scanGiveBack]
@[simp] theorem kept_tunerNotice (reason : Nat) (s : State) : (tunerNotice reason s).kept = s.kept := by simp [tunerNotice]
@[simp] theorem kept_endScan (e : ScanEnd) (s : State) : (endScan e s).kept = s.kept := by
  simp only [endScan]
  (repeat' split) <;> simp [*]
@[simp] theorem kept_stopScan (s : State) : (stopScan s).kept = s.kept := by simp [stopScan]
@[simp] theorem kept_claimTuner (source : Nat) (s : State) : (claimTuner source s).kept = s.kept := by
  simp only [claimTuner]
  (repeat' split) <;> simp [*]
@[simp] theorem kept_driveScan (offset : Int) (sc : Scan) (s : State) : (driveScan offset sc s).kept = s.kept :=
  by simp [driveScan]
@[simp] theorem kept_sweepAt (sc : Scan) (s : State) : (sweepAt sc s).kept = s.kept := by simp [sweepAt]
@[simp] theorem kept_sweepTo (word : Nat) (sc : Scan) (s : State) : (sweepTo word sc s).kept = s.kept := by
  simp only [sweepTo]
  (repeat' split) <;> simp [*]
@[simp] theorem kept_startScan (mode : ScanMode) (first : Nat) (s : State) : (startScan mode first s).kept = s.kept := by
  simp only [startScan]
  (repeat' split) <;> simp [*]
@[simp] theorem kept_beginCapture (sc : Scan) (s : State) : (beginCapture sc s).kept = s.kept :=
  by simp [beginCapture]
@[simp] theorem kept_takeJudged (j : Judged) (s : State) : (takeJudged j s).kept = s.kept := by simp [takeJudged]
@[simp] theorem kept_sampleAft (sync : Bool) (d : Nat) (s : State) : (sampleAft sync d s).kept = s.kept :=
  by simp [sampleAft]
@[simp] theorem kept_nextFound (sc : Scan) (w : Nat) (s : State) : (nextFound sc w s).kept = s.kept :=
  by simp [nextFound]
@[simp] theorem kept_captureFails (sc : Scan) (start : Nat) (s : State) : (captureFails sc start s).kept = s.kept :=
  by simp [captureFails]
@[simp] theorem kept_sweepStep (sync : Bool) (sc : Scan) (s : State) : (sweepStep sync sc s).kept = s.kept := by
  simp only [sweepStep]
  (repeat' split) <;> simp [*]
@[simp] theorem kept_chooseSource (s : State) : (chooseSource s).kept = s.kept := by simp [chooseSource]

/-! ### EngineOps -/

@[simp] theorem kept_timerNotice (reason slot : Nat) (s : State) : (timerNotice reason slot s).kept = s.kept :=
  by simp [timerNotice]
@[simp] theorem kept_endedNotice (slot : Nat) (r : ProgResult) (s : State) : (endedNotice slot r s).kept = s.kept :=
  by simp [endedNotice]
@[simp] theorem kept_extNotice (reason : Nat) (r : ProgResult) (s : State) : (extNotice reason r s).kept = s.kept :=
  by simp [extNotice]
@[simp] theorem kept_extBareNotice (reason : Nat) (s : State) : (extBareNotice reason s).kept = s.kept :=
  by simp [extBareNotice]
@[simp] theorem kept_missSteps (slot : Nat) (s : State) : (missSteps slot s).kept = s.kept := by simp [missSteps]
@[simp] theorem kept_checkOff (s : State) : (checkOff s).kept = s.kept := rfl
@[simp] theorem kept_miss (slot : Nat) (s : State) : (miss slot s).kept = s.kept := by simp [miss]
@[simp] theorem kept_dropRun (s : State) : (dropRun s).kept = s.kept := by simp [dropRun]
@[simp] theorem kept_releaseTimer (s : State) : (releaseTimer s).kept = s.kept := by simp [releaseTimer]
@[simp] theorem kept_endRun (run : Run) (r : ProgResult) (s : State) : (endRun run r s).kept = s.kept := by simp [endRun]
@[simp] theorem kept_resetRun (s : State) : (resetRun s).kept = s.kept := by
  simp only [resetRun]
  split <;> simp
@[simp] theorem kept_endOccurrence (r : ProgResult) (abort : Bool) (s : State) : (endOccurrence r abort s).kept = s.kept := by
  simp only [endOccurrence]
  (repeat' split) <;> simp [*]
@[simp] theorem kept_missRunning (s : State) : (missRunning s).kept = s.kept := by
  simp only [missRunning]
  (repeat' split) <;> simp [*]
@[simp] theorem kept_suspend (s : State) : (suspend s).kept = s.kept := by
  simp only [suspend]
  (repeat' split) <;> simp [*]
@[simp] theorem kept_endExternal (r : ProgResult) (s : State) : (endExternal r s).kept = s.kept := by
  simp only [endExternal]
  (repeat' split) <;> simp [*]
@[simp] theorem kept_engineTold (cause : Cause) (r : ProgResult) (s : State) : (engineTold cause r s).kept = s.kept := by
  simp only [engineTold]
  (repeat' split) <;> simp [*]
@[simp] theorem kept_engineReset (cause : Cause) (s : State) : (engineReset cause s).kept = s.kept := by
  cases cause <;> simp [engineReset]
@[simp] theorem kept_onRun (f : Run → Run) (s : State) : (onRun f s).kept = s.kept := by simp [onRun]
@[simp] theorem kept_switchToLong (s : State) : (switchToLong s).kept = s.kept := by simp [switchToLong]
@[simp] theorem kept_decideFit (s : State) : (decideFit s).kept = s.kept := by
  simp only [decideFit]
  (repeat' split) <;> simp [*]
@[simp] theorem kept_countRecorded (s : State) : (countRecorded s).kept = s.kept := by
  simp only [countRecorded]
  (repeat' split) <;> simp [*]

/-! ### MechOps -/

@[simp] theorem kept_stopWriting (s : State) : (stopWriting s).kept = s.kept := by simp [stopWriting]
@[simp] theorem kept_changeMode (new : Mode) (s : State) : (changeMode new s).kept = s.kept := by
  simp only [changeMode]
  (repeat' split) <;> simp [*]
@[simp] theorem kept_endLoad (s : State) : (endLoad s).kept = s.kept := rfl
@[simp] theorem kept_setTarget (t : Option Target) (s : State) : (setTarget t s).kept = s.kept := by simp [setTarget]
@[simp] theorem kept_reachTarget (s : State) : (reachTarget s).kept = s.kept := by
  simp only [reachTarget]
  (repeat' split) <;> simp [*]
@[simp] theorem kept_abortSeek (s : State) : (abortSeek s).kept = s.kept := by
  simp only [abortSeek]
  (repeat' split) <;> simp [*]
@[simp] theorem kept_displace (s : State) : (displace s).kept = s.kept := by
  simp only [displace]
  (repeat' split) <;> simp [*]
@[simp] theorem kept_breakSeek (o : MotionOutcome) (r : ProgResult) (s : State) : (breakSeek o r s).kept = s.kept := by
  simp only [breakSeek]
  (repeat' split) <;> simp [*]
@[simp] theorem kept_tellEngine (t : Option Target) (r : ProgResult) (s : State) : (tellEngine t r s).kept = s.kept := by
  simp only [tellEngine]
  (repeat' split) <;> simp [*]
@[simp] theorem kept_breakIn (o : MotionOutcome) (r : ProgResult) (move : State → State) (s : State) (hm : ∀ u, (move u).kept = u.kept) : (breakIn o r move s).kept = s.kept := by
  simp [breakIn, *]
@[simp] theorem kept_endRecordingBy (told : Cause → State → State) (how : Closing) (s : State)
    (ht : ∀ c u, (told c u).kept = u.kept) : (endRecordingBy told how s).kept = s.kept := by
  simp only [endRecordingBy]
  (repeat' split) <;> simp [*]
@[simp] theorem kept_endRecording (r : ProgResult) (how : Closing) (s : State) : (endRecording r how s).kept = s.kept := by
  simp [endRecording]
@[simp] theorem kept_claimRecord (s : State) : (claimRecord s).kept = s.kept := by
  simp only [claimRecord]
  (repeat' split) <;> simp [*]
@[simp] theorem kept_startSpeed (v : Speed) (s : State) : (startSpeed v s).kept = s.kept := rfl
@[simp] theorem kept_openRecording (cause : Cause) (speed : Speed) (s : State) : (openRecording cause speed s).kept = s.kept :=
  by simp [openRecording]
@[simp] theorem kept_askSource (s : State) : (askSource s).kept = s.kept := by simp [askSource]
@[simp] theorem kept_extStarted (s : State) : (extStarted s).kept = s.kept := by
  simp only [extStarted]
  (repeat' split) <;> simp [*]
@[simp] theorem kept_enterRec (owner : Owner) (s : State) : (enterRec owner s).kept = s.kept := by
  simp only [enterRec]
  (repeat' split) <;> simp [*]
@[simp] theorem kept_moveTo (owner : Owner) (new : Mode) (s : State) : (moveTo owner new s).kept = s.kept := by
  simp only [moveTo]
  (repeat' split) <;> simp [*]

@[simp] theorem kept_follow : ∀ (n : Nat) (s : State), (follow n s).kept = s.kept
  | 0, _ => rfl
  | n + 1, s => by
    unfold follow
    split
    · simp [kept_follow n]
    · split
      · rfl
      · split
        · simp
        · split
          · rfl
          · simp [kept_follow n]

@[simp] theorem kept_startTarget (owner : Owner) (m : Mode) (s : State) : (startTarget owner m s).kept = s.kept :=
  by simp [startTarget]
@[simp] theorem kept_ownTarget (m : Mode) (s : State) : (ownTarget m s).kept = s.kept := by simp [ownTarget]
@[simp] theorem kept_seekTarget (m : Mode) (s : State) : (seekTarget m s).kept = s.kept := by simp [seekTarget]
@[simp] theorem kept_restartReady (s : State) : (restartReady s).kept = s.kept := kept_when _ _ s rfl
@[simp] theorem kept_hostTargetTo (m : Mode) (s : State) : (hostTargetTo m s).kept = s.kept := by simp [hostTargetTo]
@[simp] theorem kept_timerDisplace (s : State) : (timerDisplace s).kept = s.kept := by
  simp only [timerDisplace]
  (repeat' split) <;> simp [*]
@[simp] theorem kept_timerTarget (m : Mode) (s : State) : (timerTarget m s).kept = s.kept := by
  simp only [timerTarget]
  (repeat' split) <;> simp [*]
@[simp] theorem kept_enterFault (r : FaultReason) (s : State) : (enterFault r s).kept = s.kept := by simp [enterFault]
@[simp] theorem kept_dewBreaksIn (s : State) : (dewBreaksIn s).kept = s.kept := by
  unfold dewBreaksIn
  rw [kept_raise, kept_breakIn _ _ _ _ (fun u => by (repeat' split) <;> simp), kept_endRecording, kept_onMech]
@[simp] theorem kept_memoryStopApplies (s : State) : (memoryStopApplies s).kept = s.kept := by
  simp only [memoryStopApplies]
  (repeat' split) <;> simp [*]
@[simp] theorem kept_autoStop (move : State → State) (s : State) (hm : ∀ u, (move u).kept = u.kept) : (autoStop move s).kept = s.kept := by
  simp [autoStop, *]
@[simp] theorem kept_memoryStopTest (p0 : Int) (z0 : Option Int) (s : State) : (memoryStopTest p0 z0 s).kept = s.kept := by
  simp only [memoryStopTest]
  (repeat' split) <;> simp [*]
@[simp] theorem kept_handOn (p0 : Int) (z0 : Option Int) (s : State) : (handOn p0 z0 s).kept = s.kept :=
  by simp [handOn]
@[simp] theorem kept_applyAnchor (v : Int) (s : State) : (applyAnchor v s).kept = s.kept := by
  simp only [applyAnchor]
  (repeat' split) <;> simp [*]
@[simp] theorem kept_beginLoad (s : State) : (beginLoad s).kept = s.kept := by simp [beginLoad]; rfl
@[simp] theorem kept_writeTrack (s : State) : (writeTrack s).kept = s.kept := by simp [writeTrack]
@[simp] theorem kept_passMark (s : State) : (passMark s).kept = s.kept := by simp [passMark]
@[simp] theorem kept_endShortRun (s : State) : (endShortRun s).kept = s.kept := by
  simp only [endShortRun]
  (repeat' split) <;> simp [*]
@[simp] theorem kept_recordStep (s : State) : (recordStep s).kept = s.kept := by simp [recordStep]
@[simp] theorem kept_tapePasses (fwd : Bool) (s : State) : (tapePasses fwd s).kept = s.kept := by
  unfold tapePasses when
  split
  · rw [kept_writeTrack, kept_onPos _ _ rfl]
  · exact kept_onPos s _ rfl
@[simp] theorem kept_countStep (fwd : Bool) (s : State) : (countStep fwd s).kept = s.kept := by
  have two (u : State) (c d : Bool) :
      (when c recordStep (when d endShortRun u)).kept = u.kept := by
    cases c <;> cases d <;> simp [when]
  unfold countStep
  dsimp only
  split
  · exact kept_tapePasses fwd s
  · generalize (if fwd then (1 : Int) else -1) = d
    split
    · exact kept_tapePasses fwd s
    · rw [kept_handOn, two, kept_onCue, kept_onPos _ _ rfl, kept_tapePasses]
@[simp] theorem kept_windMove (adv : Int) (s : State) : (windMove adv s).kept = s.kept := by
  simp only [windMove]
  (repeat' split) <;> simp [*]
@[simp] theorem kept_windStep (s : State) : (windStep s).kept = s.kept := by
  simp only [windStep]
  (repeat' split) <;> simp [*]
@[simp] theorem kept_completeSupply (s : State) : (completeSupply s).kept = s.kept := by
  simp only [completeSupply]
  (repeat' split) <;> simp [*]
@[simp] theorem kept_completeTakeUp (s : State) : (completeTakeUp s).kept = s.kept :=
  by unfold completeTakeUp; exact kept_onPos s _ (by split <;> rfl)
@[simp] theorem kept_tapeEnd (s : State) : (tapeEnd s).kept = s.kept := by
  simp only [tapeEnd]
  (repeat' split) <;> simp [*]
@[simp] theorem kept_takeMode (s : State) : (takeMode s).kept = s.kept := by simp [takeMode]

/-! ### SeekOps -/

@[simp] theorem kept_setPhase (ph : SeekPhase) (s : State) : (setPhase ph s).kept = s.kept := by simp [setPhase]
@[simp] theorem kept_endSeek (o : MotionOutcome) (s : State) : (endSeek o s).kept = s.kept := by
  simp only [endSeek]
  (repeat' split) <;> simp [*]
@[simp] theorem kept_beginWind (start : Int) (s : State) : (beginWind start s).kept = s.kept := by simp [beginWind]
@[simp] theorem kept_endApproach (k : SeekKind) (s : State) : (endApproach k s).kept = s.kept := by
  simp only [endApproach]
  (repeat' split) <;> simp [*]
@[simp] theorem kept_approachThreaded (k : SeekKind) (start : Int) (s : State) : (approachThreaded k start s).kept = s.kept := by
  simp only [approachThreaded]
  (repeat' split) <;> simp [*]
@[simp] theorem kept_beginApproach (k : SeekKind) (start : Int) (s : State) : (beginApproach k start s).kept = s.kept := by
  simp only [beginApproach]
  (repeat' split) <;> simp [*]
@[simp] theorem kept_beginReturn (s : State) : (beginReturn s).kept = s.kept := by simp [beginReturn]
@[simp] theorem kept_beginSeek (k : SeekKind) (s : State) : (beginSeek k s).kept = s.kept := by
  simp only [beginSeek]
  (repeat' split) <;> simp [*]
@[simp] theorem kept_seekMoved (s : State) : (seekMoved s).kept = s.kept := by
  simp only [seekMoved]
  (repeat' split) <;> simp [*]
@[simp] theorem kept_seekReached (m : Mode) (s : State) : (seekReached m s).kept = s.kept := by
  simp only [seekReached]
  (repeat' split) <;> simp [*]
@[simp] theorem kept_seekMark (tag slot : Nat) (s : State) : (seekMark tag slot s).kept = s.kept := by
  simp only [seekMark]
  (repeat' split) <;> simp [*]
@[simp] theorem kept_seekTapeEnd (s : State) : (seekTapeEnd s).kept = s.kept := by
  simp only [seekTapeEnd]
  (repeat' split) <;> simp [*]
@[simp] theorem kept_seekGone (s : State) : (seekGone s).kept = s.kept := by
  simp only [seekGone]
  (repeat' split) <;> simp [*]

/-! ### Agenda -/

@[simp] theorem kept_closeLock (s : State) : (closeLock s).kept = s.kept := by
  unfold closeLock
  refine kept_onLock s _ ⟨rfl, ?_⟩
  dsimp only
  split
  · next h => rw [h]; rfl
  · rfl
@[simp] theorem kept_missHeld (s : State) : (missHeld s).kept = s.kept := by
  unfold missHeld
  exact kept_foldl _ (fun u x => by split <;> simp) _ s
@[simp] theorem kept_haltTransport (s : State) : (haltTransport s).kept = s.kept := by
  simp only [haltTransport]
  (repeat' split) <;> simp [*]
@[simp] theorem kept_abortProgramme (s : State) : (abortProgramme s).kept = s.kept := by
  simp only [abortProgramme]
  (repeat' split) <;> simp [*]
@[simp] theorem kept_deckOff (s : State) : (deckOff s).kept = s.kept := by simp [deckOff, setPower]
@[simp] theorem kept_autoOff (s : State) : (autoOff s).kept = s.kept := by
  simp only [autoOff]
  (repeat' split) <;> simp [*]
@[simp] theorem kept_enterPreroll (slot : Nat) (s : State) : (enterPreroll slot s).kept = s.kept := by
  simp only [enterPreroll]
  (repeat' split) <;> simp [*]
@[simp] theorem kept_setRunPhase (ph : RunPhase) (s : State) : (setRunPhase ph s).kept = s.kept :=
  by simp [setRunPhase]
@[simp] theorem kept_placeFallback (s : State) : (placeFallback s).kept = s.kept := by simp [placeFallback]
@[simp] theorem kept_place (p : Programme) (s : State) : (place p s).kept = s.kept := by
  simp only [place]
  (repeat' split) <;> simp [*]
@[simp] theorem kept_runCheck (s : State) : (runCheck s).kept = s.kept := by
  simp only [runCheck]
  (repeat' split) <;> simp [*]
@[simp] theorem kept_startProgramme (late : Bool) (s : State) : (startProgramme late s).kept = s.kept := by
  simp only [startProgramme]
  (repeat' split) <;> simp [*]
@[simp] theorem kept_becomePlaced (edge : Option Nat) (s : State) : (becomePlaced edge s).kept = s.kept := by
  simp only [becomePlaced]
  (repeat' split) <;> simp [*]
@[simp] theorem kept_timerReached (edge : Option Nat) (m : Mode) (s : State) : (timerReached edge m s).kept = s.kept := by
  simp only [timerReached]
  (repeat' split) <;> simp [*]
@[simp] theorem kept_timerFailed (r : ProgResult) (s : State) : (timerFailed r s).kept = s.kept := by
  simp only [timerFailed]
  (repeat' split) <;> simp [*]
@[simp] theorem kept_endPlacing (edge : Option Nat) (s : State) : (endPlacing edge s).kept = s.kept := by
  simp only [endPlacing]
  (repeat' split) <;> simp [*]
@[simp] theorem kept_placementEnded (edge : Option Nat) (s : State) : (placementEnded edge s).kept = s.kept := by
  simp only [placementEnded]
  (repeat' split) <;> simp [*]
@[simp] theorem kept_tidy (s : State) : (tidy s).kept = s.kept := by
  simp only [tidy]
  (repeat' split) <;> simp [*]
@[simp] theorem kept_checkLimit (s : State) : (checkLimit s).kept = s.kept := by
  simp only [checkLimit]
  (repeat' split) <;> simp [*]

@[simp] theorem kept_runTask (edge : Option Nat) (t : Task) (s : State) : (runTask edge t s).kept = s.kept := by
  cases t <;> simp [runTask]

@[simp] theorem kept_runAgenda (edge : Option Nat) : ∀ (n : Nat) (s : State), (runAgenda edge n s).kept = s.kept
  | 0, _ => rfl
  | n + 1, s => by
    unfold runAgenda
    split
    · rw [kept_runAgenda edge n, kept_runTask, kept_refreshCounter, kept_refreshTitle]; rfl
    · split
      · simp [kept_runAgenda edge n]
      · rfl

@[simp] theorem kept_settleAt (edge : Option Nat) (s : State) : (settleAt edge s).kept = s.kept := by simp [settleAt]
@[simp] theorem kept_settle (s : State) : (settle s).kept = s.kept := by simp [settle]
@[simp] theorem kept_endInstruction (s : State) : (endInstruction s).kept = s.kept := by simp [endInstruction]
@[simp] theorem kept_failCandidate (slot : Nat) (r : ProgResult) (s : State) : (failCandidate slot r s).kept = s.kept :=
  by simp [failCandidate]
@[simp] theorem kept_handOverFrom (s : State) : (handOverFrom s).kept = s.kept := by
  simp only [handOverFrom]
  (repeat' split) <;> simp [*]
@[simp] theorem kept_handOverTo (slot : Nat) (p : Programme) (o : Occurrence) (plan : Plan) (speed : Speed) (s : State) : (handOverTo slot p o plan speed s).kept = s.kept := by
  simp only [handOverTo]
  (repeat' split) <;> simp [*]

@[simp] theorem kept_tryHandover : ∀ (slots : List Nat) (s : State), (tryHandover slots s).2.kept = s.kept
  | [], _ => rfl
  | slot :: rest, s => by
    unfold tryHandover
    split
    · exact kept_tryHandover rest s
    · split
      · exact kept_tryHandover rest s
      · dsimp only
        split
        · simp [kept_tryHandover rest]
        · split
          · simp [kept_tryHandover rest]
          · simp

@[simp] theorem kept_lookForHandover (s : State) : (lookForHandover s).2.kept = s.kept := by
  unfold lookForHandover
  split
  · exact kept_tryHandover _ s
  · rfl

@[simp] theorem kept_activeRule (edge : Option Nat) (s : State) : (activeRule edge s).kept = s.kept := by
  rcases hr : lookForHandover s with ⟨made, u⟩
  have hk : u.kept = s.kept := by simpa [hr] using kept_lookForHandover s
  unfold activeRule
  rw [hr]
  (repeat' split) <;> simp_all
@[simp] theorem kept_missDue (s : State) : (missDue s).kept = s.kept := by
  unfold missDue
  exact kept_foldl _ (fun u x => by split <;> simp) _ s
@[simp] theorem kept_enterDue (s : State) : (enterDue s).kept = s.kept := by
  simp only [enterDue]
  (repeat' split) <;> simp [*]
@[simp] theorem kept_holdDue (s : State) : (holdDue s).kept = s.kept := by
  unfold holdDue
  split
  · rfl
  · exact kept_foldl _ (fun u x => by (repeat' split) <;> simp) _ s
@[simp] theorem kept_waitingRule (s : State) : (waitingRule s).kept = s.kept := by simp [waitingRule]
@[simp] theorem kept_evaluate (edge : Option Nat) (s : State) : (evaluate edge s).kept = s.kept := by
  simp only [evaluate]
  (repeat' split) <;> simp [*]
@[simp] theorem kept_reexamineOne (slot : Nat) (s : State) : (reexamineOne slot s).kept = s.kept := by
  simp only [reexamineOne]
  (repeat' split) <;> simp [*]
@[simp] theorem kept_reexamine (s : State) : (reexamine s).kept = s.kept := by
  simp only [reexamine]
  (repeat' split) <;> simp [*]
@[simp] theorem kept_pump (s : State) : (pump s).kept = s.kept := by
  simp only [pump]
  (repeat' split) <;> simp [*]
@[simp] theorem kept_freshOpen (s : State) : s.freshOpen.kept = s.kept := rfl
@[simp] theorem kept_finish (s0 s : State) : (finish s0 s).kept = s.kept := by simp [finish]

end Sys2Proof.Machine
end

