-- ==== Sys2Proof/Laws/Finish.lean ====
section
/-! SUPPORT. What the shared operations of a step do, said once: the end of a step, a taken request, an acting event. -/

namespace Sys2Proof.Machine

open Sys2Proof

/-! ### The agenda -/

theorem settle_quiet {s : State} (ha : s.agenda = []) (hc : checkDue s = false) : settle s = s := by
  simp [settle, settleAt, agendaFuel, runAgenda, ha, hc]

theorem runAgenda_agenda (edge : Option Nat) : ∀ (n : Nat) (s : State), (runAgenda edge n s).agenda = []
  | 0, _ => rfl
  | n + 1, s => by
    unfold runAgenda
    split
    · exact runAgenda_agenda edge n _
    · split
      · exact runAgenda_agenda edge n _
      · assumption

theorem settle_agenda (s : State) : (settle s).agenda = [] := runAgenda_agenda none _ s

/-! ### Notices -/

theorem get_put_self (n : NoticeSet) (v : Notice) (k : NoticeKind) : (n.put v k).get k = some v := by cases k <;> rfl

theorem get_put_other (n : NoticeSet) (v : Notice) {k l : NoticeKind} (h : l ≠ k) : (n.put v k).get l = n.get l := by
  cases k <;> cases l <;> first | rfl | exact absurd rfl h

theorem raise_get_other (k l : NoticeKind) (reason detail : Nat) (s : State) (h : l ≠ k) :
    (raise k reason detail s).link.notices.get l = s.link.notices.get l := get_put_other _ _ h

theorem report_get_other (bit : Nat) (l : NoticeKind) (s : State) (h : l ≠ .feed ∨ s.link.feed = false) :
    (report bit s).link.notices.get l = s.link.notices.get l := by
  unfold report when
  split
  · rename_i hf
    rcases h with h | h
    · exact raise_get_other _ _ _ _ _ h
    · simp [h] at hf
  · rfl

/-! ### The items that the end of a step works out afresh -/

theorem report_eq (bit : Nat) (s : State) : ∃ n, report bit s = { s with link := { s.link with notices := n } } := by
  unfold report when
  split
  · exact ⟨_, rfl⟩
  · exact ⟨s.link.notices, rfl⟩

theorem refreshTitle_eq (s : State) : ∃ n h, refreshTitle s =
    { s with
      link := { s.link with notices := n }
      cat := { s.cat with current := currentOf s }
      lock := { s.lock with hold := h } } ∧
    h.map (fun k => { k with seen := false }) = s.lock.hold.map (fun k => { k with seen := false }) := by
  unfold refreshTitle
  split
  · rename_i h
    refine ⟨s.link.notices, s.lock.hold, ?_, rfl⟩
    rw [h]
  · obtain ⟨n, hn⟩ := report_eq 3 (s.onCat fun c => { c with current := currentOf s })
    rw [hn]
    unfold when
    split
    · refine ⟨n, _, rfl, ?_⟩
      simp only [State.onCat]
      cases s.lock.hold <;> rfl
    · exact ⟨n, _, rfl, rfl⟩

theorem refreshCounter_eq (s : State) : ∃ n, refreshCounter s =
    { s with
      link := { s.link with notices := n }
      pos := { s.pos with shown := counterValue s } } := by
  unfold refreshCounter
  split
  · rename_i h
    refine ⟨s.link.notices, ?_⟩
    rw [h]
  · obtain ⟨n, hn⟩ := report_eq 0 (s.onPos fun p => { p with shown := counterValue s })
    exact ⟨n, hn⟩

theorem refreshTitle_notices (s : State) (k : NoticeKind) (h : k ≠ .feed ∨ s.link.feed = false) :
    (refreshTitle s).link.notices.get k = s.link.notices.get k := by
  unfold refreshTitle
  split
  · rfl
  · have := report_get_other 3 k (s.onCat fun c => { c with current := currentOf s }) h
    unfold when
    split
    · exact this
    · exact this

theorem refreshCounter_notices (s : State) (k : NoticeKind) (h : k ≠ .feed ∨ s.link.feed = false) :
    (refreshCounter s).link.notices.get k = s.link.notices.get k := by
  unfold refreshCounter
  split
  · rfl
  · exact report_get_other 0 k (s.onPos fun p => { p with shown := counterValue s }) h

theorem copyOf_id (s : State) (r : RecordId) : (copyOf s r).id = r := by cases r <;> rfl

theorem pump_eq (s : State) : ∃ q f, pump s = { s with store := { s.store with queue := q, flight := f } } ∧
    (f = none → q = []) ∧
    ∀ r, (r ∈ q ∨ ∃ c, f = some c ∧ c.copy.id = r) ↔ Awaits r s := by
  unfold pump Awaits
  split
  · rename_i r rest hf hq
    refine ⟨rest, _, rfl, by simp, fun x => ?_⟩
    simp only [hf, hq, List.mem_cons, Option.some.injEq]
    constructor
    · rintro (h | ⟨c, rfl, h⟩)
      · exact .inl (.inr h)
      · rw [copyOf_id] at h
        exact .inl (.inl h.symm)
    · rintro ((h | h) | ⟨_, h, _⟩)
      · exact .inr ⟨_, rfl, by rw [copyOf_id, h]⟩
      · exact .inl h
      · simp at h
  · rename_i h
    refine ⟨s.store.queue, s.store.flight, rfl, fun hf => ?_, fun r => Iff.rfl⟩
    cases hq : s.store.queue with
    | nil => rfl
    | cons r rest => exact (h r rest hf hq).elim

/-- The end of a step after whose own work no report is left to take: what it leaves. -/
theorem finish_leaves (s0 : State) {s u : State} {raised : List (NoticeKind × Nat × Nat)}
    {recs : List RecordId} (hu : settle u = u) (ha : u.agenda = [])
    (hn : ∀ k, k ≠ .feed ∨ u.link.feed = false → u.link.notices.get k = (noticesAfter s.link.notices raised).get k)
    (hm : ∀ r, r ∈ recs → Awaits r u) (hr : ∀ r, Awaits r u → r ∈ recs ∨ Awaits r s) :
    Leaves s u (finish s0 u) raised recs := by
  obtain ⟨n1, h1, e1, hh⟩ := refreshTitle_eq u
  obtain ⟨n2, e2⟩ := refreshCounter_eq (refreshTitle u)
  have hnot : ∀ k, k ≠ .feed ∨ u.link.feed = false → n2.get k = (noticesAfter s.link.notices raised).get k := by
    intro k hf
    have a := refreshTitle_notices u k hf
    have b := refreshCounter_notices (refreshTitle u) k (by rw [e1]; exact hf)
    rw [e2] at b
    exact b.trans (a.trans (hn k hf))
  rw [e1] at e2
  generalize hv : refreshCounter (refreshTitle u) = v
  obtain ⟨q, f, e3, hq, hw⟩ := pump_eq ((v.onTim fun t =>
    { t with freeDue := (t.freeDue || !transportFree s0) && transportFree v }).noteCrossing (v.crossed && !s0.crossed)).freshOpen
  have e : finish s0 u =
      pump ((v.onTim fun t => { t with freeDue := (t.freeDue || !transportFree s0) && transportFree v }).noteCrossing
        (v.crossed && !s0.crossed)).freshOpen := by
    unfold finish
    rw [hu, hv]
  rw [e, e3]
  rw [e1, e2] at hv
  subst hv
  refine ⟨?_, ⟨rfl, rfl, hq, ?_, ha⟩, hnot, fun r h => (hw r).2 (hm r h), fun r h => hr r ((hw r).1 h)⟩
  · simp only [State.plain, State.freshOpen, State.noteCrossing, State.onTim, hh]
  · intro h
    simp only [State.freshOpen, State.noteCrossing, State.onTim, Bool.and_eq_true] at h
    exact h.2

/-- Marking a record (R189): it alone has come to await writing. -/
theorem mark_eq (r : RecordId) (s : State) : ∃ q, mark r s = { s with store := { s.store with queue := q } } ∧
    ∀ x, x ∈ q ↔ x = r ∨ x ∈ s.store.queue := by
  by_cases h : r ∈ s.store.queue
  · refine ⟨s.store.queue, ?_, fun x => ⟨.inr, ?_⟩⟩
    · simp [mark, State.onStore, h]
    · rintro (rfl | hx)
      · exact h
      · exact hx
  · refine ⟨s.store.queue ++ [r], ?_, fun x => ?_⟩
    · simp [mark, State.onStore, h]
    · simp only [List.mem_append, List.mem_singleton]
      exact Or.comm

/-! ### A taken request, an acting event -/

theorem request_taken {s : State} (h : Taken s) (p : Bool) (body : Body) :
    request p body s = finish s (decideAnswer p (body (beginFrame s)).1 (body (beginFrame s)).2) := by
  obtain ⟨hp, a, hb⟩ := h
  simp [request, hp, hb]

theorem request_pending {s : State} (h : s.mainPower = true) (hb : s.link.buffer = .pending) (p : Bool) (body : Body) :
    request p body s = s.onLink fun l => { l with sent := some notReadyAnswer } := by
  simp [request, h, hb]

theorem request_unpowered {s : State} (h : s.mainPower = false) (p : Bool) (body : Body) : request p body s = s := by
  simp [request, h]

theorem deckEvent_powered {s : State} (h : s.mainPower = true) (pin act : State → State) :
    deckEvent pin act s = finish s (act { pin s with agenda := [] }) := by
  simp [deckEvent, h]

theorem deckEvent_unpowered {s : State} (h : s.mainPower = false) (pin act : State → State) :
    deckEvent pin act s = pin s := by
  simp [deckEvent, h]

/-- A request whose checks all pass. -/
theorem checked_passed {checks : State → List (Bool × Result)} {body : Body} {s : State} (h : firstHolding (checks s) = none) :
    checked checks body s = body s := by
  simp [checked, h]

/-- A request that a check refuses. -/
theorem checked_refused {checks : State → List (Bool × Result)} {body : Body} {s : State} {r : Result}
    (h : firstHolding (checks s) = some r) : checked checks body s = answer r s := by
  simp [checked, h]

/-- A request whose parameter codes a name (11.9) goes on with that name. -/
@[simp] theorem chosen_of {α : Type} (v : α) (body : α → Body) : chosen (.of v) body = body v := rfl

/-- A request whose parameter codes none is answered RANGE by its own rule (R196). -/
@[simp] theorem chosen_other {α : Type} (n : Nat) (body : α → Body) : chosen (.other n) body = answer .range := rfl

end Sys2Proof.Machine
end

