-- ==== Sys2Proof/Laws/Outcome.lean ====
section
/-! SUPPORT. From what the body of a request, or the act of an event, leaves, to what the command leaves. -/

namespace Sys2Proof.Machine

open Sys2Proof

/-- Two expectations that agree on everything no step works out afresh are the same expectation. -/
theorem Leaves.of_plain {s w u t : State} {k : List (NoticeKind × Nat × Nat)} {r : List RecordId} (h : Leaves s u t k r)
    (e : u.plain = w.plain) : Leaves s w t k r :=
  ⟨h.plain.trans e, h.fresh, h.notices, h.marked, h.unmarked⟩

/-- A taken request whose body leaves `u`, with no report left to take. -/
theorem request_leaves {s u want : State} {a : Answer} {p : Bool} {body : Body} {k : List (NoticeKind × Nat × Nat)}
    {r : List RecordId} (hT : Taken s) (hb : body (beginFrame s) = (a, u))
    (hu : settle (decideAnswer p a u) = decideAnswer p a u) (ha : u.agenda = [])
    (e : (decideAnswer p a u).plain = want.plain)
    (hn : ∀ j, j ≠ .feed ∨ u.link.feed = false → u.link.notices.get j = (noticesAfter s.link.notices k).get j)
    (hm : ∀ x, x ∈ r → Awaits x u) (hr : ∀ x, Awaits x u → x ∈ r ∨ Awaits x s) :
    Leaves s want (request p body s) k r := by
  rw [request_taken hT, hb]
  exact (finish_leaves s (u := decideAnswer p a u) hu ha hn hm hr).of_plain e

/-- A taken request whose body leaves `u` with an empty agenda and no check of R168 due. -/
theorem request_quiet {s u want : State} {a : Answer} {p : Bool} {body : Body} {k : List (NoticeKind × Nat × Nat)}
    {r : List RecordId} (hT : Taken s) (hb : body (beginFrame s) = (a, u)) (hc : checkDue u = false) (ha : u.agenda = [])
    (e : (decideAnswer p a u).plain = want.plain)
    (hn : ∀ j, j ≠ .feed ∨ u.link.feed = false → u.link.notices.get j = (noticesAfter s.link.notices k).get j)
    (hm : ∀ x, x ∈ r → Awaits x u) (hr : ∀ x, Awaits x u → x ∈ r ∨ Awaits x s) :
    Leaves s want (request p body s) k r :=
  request_leaves hT hb (settle_quiet (s := decideAnswer p a u) ha hc) ha e hn hm hr

/-- An event whose act leaves `u`, with no report left to take. -/
theorem event_leaves {s u want : State} {pin act : State → State} {k : List (NoticeKind × Nat × Nat)} {r : List RecordId}
    (hp : s.mainPower = true) (hb : act { pin s with agenda := [] } = u) (hu : settle u = u) (ha : u.agenda = [])
    (e : u.plain = want.plain)
    (hn : ∀ j, j ≠ .feed ∨ u.link.feed = false → u.link.notices.get j = (noticesAfter s.link.notices k).get j)
    (hm : ∀ x, x ∈ r → Awaits x u) (hr : ∀ x, Awaits x u → x ∈ r ∨ Awaits x s) :
    Leaves s want (deckEvent pin act s) k r := by
  rw [deckEvent_powered hp, hb]
  exact (finish_leaves s hu ha hn hm hr).of_plain e

/-- A taken request that its body answers with an answer alone. -/
theorem read_of {i : Instr} {s : State} {a : Answer} {body : Body} (hi : exec i s = .next (request false body s))
    (hT : Taken s) (hQ : Quiet s) (hb : body (beginFrame s) = (a, beginFrame s)) :
    Replies i s a.result a.data s [] [] :=
  ⟨_, hi, request_quiet hT hb hQ rfl rfl (fun _ _ => rfl) (by simp) (fun _ h => .inr h)⟩

/-- A taken request that its body refuses. -/
theorem refuse_of {i : Instr} {s : State} {r : Result} {body : Body} (hi : exec i s = .next (request false body s))
    (hT : Taken s) (hQ : Quiet s) (hb : body (beginFrame s) = answer r (beginFrame s)) : Refuses i s r :=
  read_of hi hT hQ hb

/-- A taken request whose body ends by marking one record. -/
theorem mark_quiet {s v want : State} {a : Answer} {p : Bool} {body : Body} {x : RecordId}
    {k : List (NoticeKind × Nat × Nat)} (hT : Taken s) (hb : body (beginFrame s) = (a, mark x v))
    (hc : checkDue v = false) (ha : v.agenda = [])
    (hst : v.store.queue = s.store.queue ∧ v.store.flight = s.store.flight)
    (e : ∀ q, (decideAnswer p a { v with store := { v.store with queue := q } }).plain = want.plain)
    (hn : ∀ j, j ≠ .feed ∨ v.link.feed = false → v.link.notices.get j = (noticesAfter s.link.notices k).get j) :
    Leaves s want (request p body s) k [x] := by
  obtain ⟨q, hq, hx⟩ := mark_eq x v
  rw [hq] at hb
  refine request_quiet hT hb hc ha (e q) hn (fun y hy => ?_) (fun y hy => ?_)
  · simp only [List.mem_singleton] at hy
    exact .inl ((hx y).2 (.inl hy))
  · rcases hy with hy | hy
    · rcases (hx y).1 hy with h | h
      · left
        simp [h]
      · exact .inr (.inl (hst.1 ▸ h))
    · right
      right
      simpa [hst.2] using hy

/-- A taken request that changes SETTINGS and nothing else. -/
theorem settings_of {i : Instr} {s : State} {body : Body} {f : Settings → Settings}
    (hi : exec i s = .next (request false body s)) (hT : Taken s) (hQ : Quiet s)
    (hb : body (beginFrame s) = okay (setSettings f (beginFrame s))) :
    Replies i s .ok [] { s with settings := f s.settings } [] [.settings] :=
  ⟨_, hi, mark_quiet hT hb hQ rfl ⟨rfl, rfl⟩ (fun _ => rfl) (fun _ _ => rfl)⟩

/-- No condition of a list of checks holds. -/
theorem firstHolding_none {l : List (Bool × Result)} (h : ∀ x ∈ l, x.1 = false) : firstHolding l = none := by
  induction l with
  | nil => rfl
  | cons x l ih =>
    obtain ⟨c, r⟩ := x
    have hc : c = false := h (c, r) (by simp)
    simp [firstHolding, hc, ih (fun y hy => h y (by simp [hy]))]

/-- The first condition of a list of checks holds. -/
theorem firstHolding_head {c : Bool} {r : Result} {l : List (Bool × Result)} (h : c = true) :
    firstHolding ((c, r) :: l) = some r := by
  simp [firstHolding, h]

/-- The first condition of a list of checks does not hold. -/
theorem firstHolding_tail {c : Bool} {r : Result} {l : List (Bool × Result)} (h : c = false) :
    firstHolding ((c, r) :: l) = firstHolding l := by
  simp [firstHolding, h]

end Sys2Proof.Machine
end

