-- ==== Sys2Proof/Tests/Slice0.lean ====
section
/-! SUPPORT. Tests of the model. Expected results come from the manual's worked cases and tables, named in each comment; the
theorems `test_meets_…` show that the hypotheses of each statement can be met, clause by clause. -/

namespace Sys2Proof.Tests

open Sys2Proof Sys2Proof.Machine

set_option Elab.async false

/-! ### Small states -/

/-- The state a command leaves. -/
def after (i : Instr) (s : State) : State :=
  match exec i s with
  | .next t => t
  | .fault f => nomatch f
  | .refused _ => s

/-- A deck that is ON, with a valid clock and a cassette carried down, in a mode, the cam where the mode has it. -/
def deck (m : Mode) : State :=
  { State.reset with
    hold := { State.reset.hold with power := .on, valid := true }
    pins := { idleInputs with
      cassetteIn := true, carriageDown := true, recordTab := true
      cam := if m.threaded || m == .unthreading then .threadPos else .haltPos }
    mech := { State.reset.mech with mode := m, tab := true, forward := !m.reverse }
    pos := { Pos.noLoad false .absent with place := some ⟨1000, .exact⟩ } }

/-- The same deck in another deck power state. -/
def powered (p : DeckPower) (m : Mode) : State := { deck m with hold := { (deck m).hold with power := p } }

/-- The same deck with the lock in a state, its code 1234, with some attempts left. -/
def lockedDeck (k : LockState) (attempts : Nat) : State :=
  { deck .halted with
    settings := { Settings.factory with lockCode := if k = .none then none else some 1234 }
    lock := { state := k, attempts := attempts, hold := none } }

/-- A used preset. -/
def station : Preset := ⟨true, .high, 5000, 3, true, 1, false, false, []⟩

/-- A deck whose preset 1 is a record, and whose current source is 1. -/
def tuned (p : Preset) : State :=
  { deck .halted with tun := { (deck .halted).tun with
    presets := p :: List.replicate 98 Preset.factory, source := 1
    working := ⟨p.band, p.base, p.fine, p.aft, p.sound, 0⟩ } }

/-- An anchored title of cassette 12. -/
def title (slot : Nat) (start : Int) (length : Nat) : Title :=
  ⟨12, some slot, true, start, length, .std, none, 3, 0, .manual, false, false, false, false, false, false, []⟩

/-- Cassette 12 with titles in the first pool records. -/
def cassette (n : Nat) : Cassette := ⟨12, [], .b, none, 5, 6, List.range n, [], 0⟩

/-- A deck in a mode with cassette 12 identified, at a position, with titles. -/
def holding (m : Mode) (p : Int) (ts : List Title) : State :=
  { deck m with
    pos := { Pos.noLoad false .absent with place := some ⟨p, .exact⟩ }
    cue := { Cue.initial with identity := .read 12 }
    cat := { (deck m).cat with
      cassettes := [cassette ts.length], pool := ts.map some ++ List.replicate (256 - ts.length) none } }

/-- A deck in REC or REC-PAUSE at 55,010 with a manual recording open in title 0 from 55,000, other titles beside it. -/
def recordingOver (m : Mode) (ts : List Title) : State :=
  let s := holding m 55010 ({ title 7 55000 10 with isOpen := true } :: ts)
  { s with
    mech := { s.mech with cause := .manual }
    tun := { s.tun with owner := .record, saved := some 101 }
    cat := { s.cat with recording := some ⟨55000, true, some 0, some 12⟩ } }

/-- The same with no title beside it. -/
def recordingDeck (m : Mode) : State := recordingOver m []

/-- The catalogue of a deck is being wiped. -/
def wipingDeck (r : Region) : State :=
  { deck .halted with store := { (deck .halted).store with wipe := some ⟨r, [.settings]⟩ } }

/-- A programme in a state, ONCE on day 100 from 20:00 to 21:00. -/
def programme (st : ProgState) : Programme :=
  ⟨st, .once, 100, 1200, 1260, 101, .std, false, 0, none, some ⟨145200, 145260⟩, .clear⟩

/-- A deck whose slot 2 holds a programme. -/
def timed (p : Programme) : State :=
  { deck .halted with tim := { (deck .halted).tim with programmes := (List.replicate 16 Programme.factory).set 2 p } }

/-- A deck with both function lines assigned. -/
def lined (a b : LineFn) (m : Mode) : State :=
  { deck m with settings := { Settings.factory with line1 := a, line2 := b } }

/-! ### Worked cases of the manual -/

/-- 3.1, the mark of tag 37, slot 5: pulses 9 to 25. -/
theorem test_mark_of_tag_37_slot_5 :
    (List.range 25).map (fun n => markPulse 37 5 (n + 1)) =
      [true, true, true, true, true, true, true, true,
       false, false, false, false, true, false, false, true, false, true,
       false, false, false, true, false, true, true] := by decide +kernel

/-- 2.7, five FF revolutions: the wind start at P = 90,000 in a class B cassette. -/
theorem test_wind_start : (Config.reel .s625 .b).d = 69 ∧ (Config.reel .s625 .b).cMin = 44698 ∧
    (entered .ff (deck .halted)).pos.wind.isSome = true ∧
    ((posModeChange .halted .ff
      { deck .halted with pos := { Pos.noLoad false .absent with place := some ⟨90000, .exact⟩ } }).pos.wind.map (·.c)) =
      some 71680 := by decide +kernel

/-- 2.7, the first FF revolution: 280 HU, A = 0, C = 71,749. -/
theorem test_ff_wind_step :
    let s := { deck .ff with pos := { Pos.noLoad false .absent with
      place := some ⟨90000, .exact⟩, wind := some ⟨71680, 0, 7, Config.reel .s625 .b⟩ } }
    (after .takeUpTachEdge s).pos.place = some ⟨90280, .estimated⟩ ∧
    (after .ffWindStep s).pos.wind.map (fun w => (w.c, w.a)) = some (71749, 0) := by decide +kernel

/-- 2.7, rewinding onto the hub: the fourth revolution is held at 0. -/
theorem test_rew_wind_step :
    let s := { deck .rew with pos := { Pos.noLoad false .absent with
      place := some ⟨77, .estimated⟩, wind := some ⟨44698, 206, 0, Config.reel .s625 .b⟩ } }
    (after .rewWindStep s).pos.place = some ⟨0, .estimated⟩ ∧
    (after .rewWindStep s).pos.wind.map (fun w => (w.c, w.a)) = some (44698, 104) := by decide +kernel

/-- 2.6, the remaining figure: S_s = 3,600 HU at P = 12,000 gives 320,170 HU and the total 332,170 HU. -/
theorem test_remaining_figure :
    let s := { holding .play 12000 [] with pos := { Pos.noLoad false .absent with
      place := some ⟨12000, .exact⟩, supply := some ⟨63, 3600⟩ } }
    (after .supplyMeasurementComplete s).pos.pair = some ⟨320170, 12000⟩ ∧
    (after .supplyMeasurementComplete s).cat.cassettes.map (·.total) = [some 332170] := by decide +kernel

/-- 2.4, anchoring after a mid-tape insertion: Z moves with P. -/
theorem test_anchor_moves_the_zero :
    let s := { deck .rew with pos := { Pos.noLoad false .absent with
      place := some ⟨-38420, .unanchored⟩, zero := some 1200 } }
    (after (.botAnchor true) s).pos.place = some ⟨0, .exact⟩ ∧ (after (.botAnchor true) s).pos.zero = some 39620 := by decide +kernel

/-- R37: a BOT edge that comes at once after the memory-stop crossing anchors at 0; with another command between them it does not. -/
theorem test_bot_edge_beside_the_crossing :
    let s := { deck .rew with pos := { (deck .rew).pos with
      memoryStop := true, zero := some 800, wind := some ⟨71680, 0, 7, Config.reel .s625 .b⟩ } }
    (after (.botAnchor true) (after .rewWindStep s)).pos.place = some ⟨0, .exact⟩ ∧
    (after (.botAnchor true) (after .rewWindStep s)).mech.mode = .halted ∧
    (after (.botAnchor true) (after .null (after .rewWindStep s))).pos.place = some ⟨721, .estimated⟩ := by decide +kernel

/-- 5.5, AFT settles: sample 1 is above the window, sample 11 locks; AFT-STORE keeps the word. -/
theorem test_aft_samples :
    (after (.aftSample true 150) { tuned station with tun := { (tuned station).tun with aft := .settling } }).tun.working.offset
      = -1 ∧
    (after (.aftSample true 125)
      { tuned station with tun := { (tuned station).tun with aft := .settling, aftCount := 7 } }).tun.aft = .locked := by decide +kernel

/-- 5.5, AFT-STORE: base word 4,997 and offset 0, the word 5,003 unchanged. -/
theorem test_aft_store :
    let s := { tuned station with tun := { (tuned station).tun with working := ⟨.high, 5000, 3, true, 1, -3⟩ } }
    s.tun.working.word = 5003 ∧ (after .aftStore s).tun.working.word = 5003 ∧
    (presetAt (after .aftStore s) 1).map (·.base) = some 4997 := by decide +kernel

/-- 7.6, the clocks go back: 02:00:00 on the same day, DST off. -/
theorem test_clocks_go_back :
    let s := { deck .halted with hold := { (deck .halted).hold with day := 12718, seconds := 10799, dst := true } }
    (after (.clockShift 1) s).hold.staged = .shift false ∧
    (fun h : Hold => (h.day, h.seconds, h.dst)) (after .secondEvent (after (.clockShift 1) s)).hold = (12718, 7200, false) := by
  decide +kernel

/-- 7.6, a shift across midnight: 23:30:10 on day 12,492 to 00:30:11 on day 12,493. -/
theorem test_shift_across_midnight :
    let s := { deck .halted with hold := { (deck .halted).hold with day := 12492, seconds := 84610 } }
    (fun h : Hold => (h.day, h.seconds, h.dst)) (after .secondEvent (after (.clockShift 0) s)).hold = (12493, 1811, true) := by
  decide +kernel

/-- 8.2, occurrences across midnight: committed on day 12,492 at 23:40, the run of that day; after it, that of 12,493; and a
WEEKDAYS programme finds Monday, day 12,495. -/
theorem test_next_occurrence :
    let p : Programme := { Programme.factory with kind := .daily, start := 1410, stop := 15 }
    p.nextOccurrence 12492 17989900 = some ⟨17989890, 17989935⟩ ∧
    ({ p with lastDay := some 12492 }).nextOccurrence 12492 17989940 = some ⟨17991330, 17991375⟩ ∧
    (({ p with kind := .weekdays, lastDay := some 12492 }).nextOccurrence 12492 17989940).map (fun (o : Occurrence) => o.start / 1440) = some 12495 := by
  decide +kernel

/-- 4.9, recording over existing titles: the start of the recording takes slot 7 and its limit is 94,900. -/
theorem test_record_takes_slot_7 :
    let s := holding .ready 55000 [title 1 500 50000, title 2 60000 2000, title 3 62080 30000,
      { title 4 95000 40000 with isProtected := true }]
    let s := { s with cat := { s.cat with cassettes := s.cat.cassettes.map fun c =>
      { c with dead := [⟨5, some 140000⟩, ⟨6, some 58000⟩] } } }
    freeSlot s 12 = some 7 ∧ startOn s = none ∧ limitFrom s 12 55000 = some 94900 := by decide +kernel

/-! ### The queue, the table's words and well-formed commands -/

theorem test_step_takes_front :
    (match step { deck .halted with pending := [.feed (.of true), .null] } with
      | .next t => (t.link.feed, t.pending)
      | .fault f => nomatch f
      | .refused _ => (false, [])) = (true, [.null]) := by decide +kernel

theorem test_no_row_has_bits : decodeTableWord 8 0 = none ∧ State.withFetchWord State.reset 8 0 = State.reset := ⟨rfl, rfl⟩

/-- Each check refuses an ill-formed command. -/
theorem test_ill_formed :
    wellFormed (.tune 256) = false ∧ wellFormed (.unlock 65536) = false ∧
    wellFormed (.cassetteLabel 1 (List.replicate 253 0x41)) = false ∧ wellFormed (.fine 128) = false ∧
    wellFormed (.fine (-129)) = false ∧ wellFormed (.clockTrim 32768) = false ∧ wellFormed (.clockTrim (-32769)) = false ∧
    wellFormed (.presetWrite 1 ⟨4, 0, 0, false, 0, false, []⟩) = false ∧
    wellFormed (.presetWrite 1 ⟨0, 0, 0, false, 4, false, []⟩) = false ∧
    wellFormed (.titleFind 0 0 (.other 1)) = false ∧ wellFormed (.titleFind 0 0 (.source 256)) = false ∧
    wellFormed (.unknownRequest 0 []) = false ∧ wellFormed (.markDecoded []) = false ∧ wellFormed (.drumPgPulse 0) = false ∧
    wellFormed (.controlTrackPulse 10 11) = false ∧ wellFormed (.editOpen 255) = false ∧
    wellFormed (.wind (.other 1)) = false ∧ wellFormed (.search (.other 0)) = false ∧ wellFormed (.speed (.other 256)) = false ∧
    wellFormed (.counterMode (.other 2)) = false ∧ wellFormed (.memoryStop (.other 1)) = false ∧
    wellFormed (.feed (.other 256)) = false ∧ wellFormed (.power (.other 0)) = false ∧
    wellFormed (.titleProtect 1 0 (.other 1)) = false ∧ wellFormed (.lockPreset 1 (.other 0)) = false ∧
    wellFormed (.lockTitle 1 1 (.other 256)) = false := by decide +kernel

/-- And admits the last value of each field. -/
theorem test_well_formed :
    wellFormed (.tune 255) = true ∧ wellFormed (.unlock 65535) = true ∧ wellFormed (.fine (-128)) = true ∧
    wellFormed (.clockTrim 32767) = true ∧ wellFormed (.presetWrite 1 ⟨3, 65535, -128, true, 3, true, []⟩) = true ∧
    wellFormed (.titleFind 0 0 (.other 2)) = true ∧ wellFormed (.unknownRequest 0xFF []) = true ∧
    wellFormed (.markDecoded (List.replicate 17 true)) = true ∧ wellFormed (.editOpen 254) = true ∧
    wellFormed (.wind (.other 2)) = true ∧ wellFormed (.counterMode (.other 3)) = true ∧ wellFormed (.feed (.other 255)) = true := by decide +kernel

/-- 11.8, 11.9: the frame of UNLOCK(1234) is read back, whatever follows it. -/
theorem test_frame_of_unlock :
    (Instr.spell (.unlock 1234)).map (·.2) = some [0x04, 0xD2] ∧
    (Instr.frame (.unlock 1234)).bind (fun bytes => parseFrame (bytes ++ [0xAA])) = some (.request (.unlock 1234)) := by decide +kernel

/-- R196, R16: a value outside a coded parameter is the request's own to answer, STATE coming before RANGE where the deck is OFF. -/
theorem test_value_outside_a_code :
    (Instr.spell (.wind (.other 2))).bind (fun x => match parse x.1 x.2 with
      | .request i => some i
      | _ => none) = some (.wind (.other 2)) ∧
    (after (.wind (.other 2)) (deck .halted)).link.buffer = .ready ⟨.range, []⟩ ∧
    (after (.wind (.other 2)) (powered .off .halted)).link.buffer = .ready ⟨.state, []⟩ := by decide +kernel

/-- R33: a soft reset with no load in progress begins none, carriage-down being active or not. -/
theorem test_soft_reset_without_a_load :
    let s := { deck .ejecting with pos := Pos.noLoad true .absent }
    (after .softReset s).pos.place = none ∧ (after .softReset s).pos.memoryStop = true := by decide +kernel

/-- R81: CASSETTE-REGISTER clears the titles-opened flag. -/
theorem test_register_clears_the_flag :
    let s := { deck .halted with cue := { Cue.initial with titlesOpened := true } }
    (after .cassetteRegister s).link.buffer = .ready ⟨.ok, [0, 1]⟩ ∧ (after .cassetteRegister s).cue.titlesOpened = false := by
  decide +kernel

/-- R43, R199: a load that begins and ends within one step tells the counter value twice, absent again at its end. -/
theorem test_counter_told_within_a_step :
    let d := deck .loading
    let s := { d with
      mech := { d.mech with target := some ⟨.empty, .host⟩ }, pos := Pos.noLoad false .absent
      link := { d.link with feed := true, notices := .empty } }
    let t := after (.loadingComplete true true) s
    t.mech.mode = .ejecting ∧ t.pos.shown = .absent ∧
    (t.link.notices.get .feed).map (·.reason.testBit 0) = some true := by decide +kernel

/-! ### The rules at their edges -/

/-- R1, the rows PLAY and REW of the table, as a change of mode drives them. -/
theorem test_outputs :
    outputs (changeMode .play (deck .still)).mech = ⟨.off, .on, .at true .std, true, false, .off, false⟩ ∧
    outputs (changeMode .rew (deck .halted)).mech = ⟨.off, .off, .wind false, false, false, .off, false⟩ := by decide +kernel

theorem test_meets_ModeEntryTimers :
    (deck .halted).mech.mode ≠ .rew ∧ Mode.threading.threaded = false ∧ Mode.halted ≠ .threading := by decide +kernel

/-- R182: the fifth wrong code freezes the lock, and the right one opens it with five attempts. -/
theorem test_unlock :
    (after (.unlock 1111) (lockedDeck .locked 1)).lock = ⟨.frozen, 0, none⟩ ∧
    (after (.unlock 1234) (lockedDeck .locked 1)).lock = ⟨.unlocked, 5, none⟩ := by decide +kernel

/-- R132: the last second of the calendar repeats its day with the valid flag off. -/
theorem test_range_end :
    let s := { deck .halted with hold := { (deck .halted).hold with day := 36524, seconds := 86399 } }
    (fun h : Hold => (h.day, h.seconds, h.valid)) (after .secondEvent s).hold = (36524, 0, false) := by decide +kernel

/-- R34: the sixth forward pulse makes a counting step. -/
theorem test_capstan_pulse :
    let s := { deck .play with pos := { Pos.noLoad false .absent with place := some ⟨1000, .exact⟩, residue := 5 } }
    (after .capstanPulse s).pos.place = some ⟨1001, .exact⟩ ∧ (after .capstanPulse s).pos.residue = 0 := by decide +kernel

/-- 1.12, loading a cassette and playing it: LOADING to HALTED, and PLAY threads the tape. -/
theorem test_loading_and_play :
    (after .cassetteIn State.reset).mech.mode = .loading ∧
    (after (.loadingComplete true true) (after .cassetteIn State.reset)).pos.place = some ⟨0, .exact⟩ ∧
    (after .play (deck .halted)).mech.mode = .threading := by decide +kernel

/-- R7, R8: PLAY with the tape in STILL is a direct change; its outcome is DONE. -/
theorem test_direct_change :
    (after .play (deck .still)).mech.mode = .play ∧ (after .play (deck .still)).mech.outcome = .done := by decide +kernel

/-- R16: a transport request with the deck OFF is refused, and EJECT is not. -/
theorem test_off_refuses_play :
    (after .play (powered .off .halted)).link.buffer = .ready ⟨.state, []⟩ ∧
    (after .eject (powered .off .halted)).mech.mode = .ejecting := by decide +kernel

/-- R192: a WIPE without WIPE-PREPARE is answered SEQUENCE. -/
theorem test_wipe_sequence :
    (after (.wipe 1) (deck .halted)).link.buffer = .ready ⟨.sequence, []⟩ ∧
    (after .wipePrepare (deck .halted)).store.isPrepared = true := by decide +kernel

/-! ### The hypotheses of the statements can be met

A state that is `ready` is taken and quiet, and a state that is `free` obeys and is unclaimed: the two lemmas below turn the
decided Bools of the theorems into the hypotheses as the statements write them. -/

/-- A request is taken in the state, and no check is due. -/
def ready (s : State) : Bool :=
  s.mainPower && (match s.link.buffer with
    | .ready _ => true
    | .pending => false) && !checkDue s

theorem ready_meets {s : State} (h : ready s = true) : Taken s ∧ Quiet s := by
  unfold ready at h
  cases hb : s.link.buffer with
  | ready a =>
    rw [hb] at h
    simp only [Bool.and_true, Bool.and_eq_true, Bool.not_eq_true'] at h
    exact ⟨⟨h.1, a, hb⟩, h.2⟩
  | pending => simp [hb] at h

/-- Nothing stands in the way of a transport request, and no target, seek or recording claims the transport. -/
def free (s : State) : Bool :=
  !s.pins.powerWarning && s.hold.power == .on && s.tim.run.isNone && !s.mech.dewLock && s.mech.target.isNone &&
    s.cue.seek.isNone && s.mech.cause == .none

theorem free_meets {s : State} (h : free s = true) : Obeys s ∧ Unclaimed s := by
  simp only [free, Bool.and_eq_true, Bool.not_eq_true', beq_iff_eq, Option.isNone_iff_eq_none] at h
  obtain ⟨⟨⟨⟨⟨⟨h1, h2⟩, h3⟩, h4⟩, h5⟩, h6⟩, h7⟩ := h
  exact ⟨⟨h1, h2, h3, h4⟩, ⟨h5, h6, h7⟩⟩

/-- A recording claims the transport, and nothing else does. -/
def obeying (s : State) : Bool :=
  !s.pins.powerWarning && s.hold.power == .on && s.tim.run.isNone && !s.mech.dewLock

theorem obeying_meets {s : State} (h : obeying s = true) : Obeys s := by
  simp only [obeying, Bool.and_eq_true, Bool.not_eq_true', beq_iff_eq, Option.isNone_iff_eq_none] at h
  obtain ⟨⟨⟨h1, h2⟩, h3⟩, h4⟩ := h
  exact ⟨h1, h2, h3, h4⟩

/-- The programme being run is consistent. -/
def runOk (s : State) : Bool :=
  let recording := s.tim.run.any fun r => r.phase == .recording
  ((List.range s.tim.programmes.length).all fun n => match progAt s n with
    | none => true
    | some p => !(p.state == .preroll || p.state == .recording)
        || s.tim.run.any fun r => r.slot == n && decide (p.state = .recording ↔ r.phase = .recording)) &&
  (s.tim.run.all fun r => (progAt s r.slot).any fun p => p.state == .preroll || p.state == .recording) &&
  (s.cue.writer == .idle || (s.mech.mode == .recording && s.mech.cause != .none)) &&
  (s.mech.target != some ⟨.recording, .timer⟩ || s.tim.ext == .starting) &&
  (match s.mech.cause with
    | .none => true
    | .manual => s.mech.mode.inRecording
    | .external => s.mech.mode.inRecording && s.tim.ext == .recording
    | .programme n => s.mech.mode.inRecording && recording && s.tim.run.any fun r => r.slot == n)

theorem runOk_meets {s : State} (h : runOk s = true) : RunOk s := by
  simp only [runOk, Bool.and_eq_true, List.all_eq_true, List.mem_range] at h
  obtain ⟨⟨⟨⟨hs, hr⟩, hw⟩, ht⟩, hc⟩ := h
  refine ⟨fun n p hp hst => ?_, fun r h => ?_, fun n hn => ?_, fun he => ?_, fun ht' => ?_, fun hne => ?_, fun hne => ?_⟩
  · have hlt : n < s.tim.programmes.length := (List.getElem?_eq_some_iff.mp hp).1
    have := hs n hlt
    rw [hp] at this
    cases hr : s.tim.run with
    | none => rcases hst with h | h <;> simp [h, hr] at this
    | some r =>
      refine ⟨r, rfl, ?_⟩
      rcases hst with h | h <;> simpa [h, hr] using this
  · rw [h] at hr
    cases hp : progAt s r.slot with
    | none => simp [hp] at hr
    | some p => exact ⟨p, rfl, by simpa [hp] using hr⟩
  · rw [hn] at hc
    cases hr : s.tim.run with
    | none => simp [hr] at hc
    | some r => exact ⟨r, rfl, by simp_all, by simp_all⟩
  · rw [he] at hc
    simp_all
  · simpa [ht'] using ht
  · cases hc' : s.mech.cause <;> simp_all
  · simpa [hne] using hw

/-- The catalogue has the form that its laws require. -/
def catalogueOk (s : State) : Bool :=
  decide (s.cat.cassettes.map (·.tag)).Nodup &&
  ((List.range s.cat.pool.length).all fun i => match titleAt s i with
    | none => true
    | some x => s.cat.cassettes.any fun c => c.tag == x.tag && c.titles.contains i) &&
  s.cat.cassettes.all fun c =>
    decide (c.titles.Nodup ∧ c.titles.length ≤ 63) &&
    (c.titles.all fun i => (titleAt s i).any fun x => x.tag == c.tag) &&
    decide ((titlesOf s c.tag).Pairwise fun x y => x.2.before y.2) &&
    decide ((c.dead.map (·.slot)).Nodup ∧ ∀ e ∈ c.dead, ∀ x ∈ titlesOf s c.tag, x.2.slot ≠ some e.slot)

theorem catalogueOk_meets {s : State} (h : catalogueOk s = true) : CatalogueOk s := by
  simp only [catalogueOk, Bool.and_eq_true, decide_eq_true_eq, List.all_eq_true, List.mem_range] at h
  obtain ⟨⟨ht, ho⟩, hc⟩ := h
  refine ⟨ht, fun i x hx => ?_, fun c m => ?_, fun c m => (hc c m).1.2, fun c m => (hc c m).2⟩
  · have hlt : i < s.cat.pool.length := by
      unfold titleAt at hx
      cases hg : s.cat.pool[i]? with
      | none => simp [hg] at hx
      | some v => exact (List.getElem?_eq_some_iff.mp hg).1
    have := ho i hlt
    rw [hx] at this
    simpa [List.any_eq_true] using this
  · obtain ⟨⟨⟨h1, h2⟩, -⟩, -⟩ := hc c m
    refine ⟨h1.1, h1.2, fun i hi => ?_⟩
    have := h2 i hi
    cases hx : titleAt s i with
    | none => simp [hx] at this
    | some x => exact ⟨x, rfl, by simpa [hx] using this⟩

theorem test_meets_IdleStepCounts :
    State.reset.pending = [] ∧ State.reset.hold.intact = true ∧ ((State.reset.hold.count + 1 : Nat) : Int) < State.reset.hold.secondLength ∧
    (let s := { State.reset with hold := { State.reset.hold with count := 32767 } }
     s.hold.intact = true ∧ s.hold.secondLength ≤ ((s.hold.count + 1 : Nat) : Int)) ∧
    ({ State.reset with hold := { State.reset.hold with intact := false } }).hold.intact = false := by decide +kernel

theorem test_meets_LockOkKept : LockOk State.reset ∧ ∃ t, step State.reset = .next t :=
  ⟨⟨by decide, by decide, by decide⟩, _, rfl⟩

theorem test_meets_PositionLimitsKept : PlaceOk (deck .play) ∧ ∃ t, step (deck .play) = .next t := by
  refine ⟨?_, _, rfl⟩
  intro pl h
  cases h
  exact ⟨by decide, by decide⟩

theorem test_meets_WriteQueueKept :
    QueueOk { State.reset with store := { State.reset.store with queue := [.settings, .preset 1] } } ∧
    ∃ t, step { State.reset with store := { State.reset.store with queue := [.settings, .preset 1] } } = .next t := by
  refine ⟨?_, _, rfl⟩
  unfold QueueOk
  decide

theorem test_meets_FreshKept : State.reset.mainPower = true ∧ Fresh { State.reset with pending := [.feed (.of true)] } ∧
    step { State.reset with pending := [.feed (.of true)] } = .next (after (.feed (.of true)) State.reset) ∧
    (after (.feed (.of true)) State.reset).mainPower = true :=
  ⟨rfl, ⟨rfl, rfl, fun _ => rfl, (fun h => nomatch h), rfl⟩, rfl, by decide +kernel⟩

/-- R98 on both sides of the ends of a span, with an open title of either kind, without an identity and unanchored. -/
theorem test_meets_FreshKept_current :
    (∀ p ∈ [(49 : Int), 50, 149, 150],
      let s := holding .play p [title 1 50 100, { title 2 0 500 with anchored := false }]
      s.cue.identity.tag = some 12 ∧ anchoredP s = some p ∧ s.cat.recording.bind (·.title) = none ∧
      (titlesOf s 12).filter (fun y => y.2.anchored && decide (y.2.start ≤ p) && decide (p < y.2.start + y.2.length)) =
        if p = 50 ∨ p = 149 then [(0, title 1 50 100)] else []) ∧
    (∀ a ∈ [true, false],
      let r := recordingDeck .recording
      let s := { r with cat := { r.cat with pool := r.cat.pool.set 0 (some { title 7 55000 10 with anchored := a }) } }
      s.cue.identity.tag = some 12 ∧ anchoredP s = some 55010 ∧ s.cat.recording.bind (·.title) = some 0 ∧
      (titleAt s 0).map (·.anchored) = some a) ∧
    (deck .play).cue.identity = .none ∧ State.reset.pos.place = none ∧
    anchoredP { deck .play with pos := { (deck .play).pos with place := some ⟨60, .unanchored⟩ } } = none := by decide +kernel

/-- A deck with the feed on or off. -/
def fed (on : Bool) (s : State) : State := { s with link := { s.link with feed := on } }

/-- A change of each item that FEED tells of, and a FEED notice that stands with the feed off. -/
theorem test_meets_FreshKept_feed :
    (let s := fed true (holding .play 49 [title 1 50 100])
     let t := after .countingStep s
     s.link.feed = true ∧ t.link.feed = true ∧ t.cat.current ≠ s.cat.current ∧ t.pos.shown ≠ s.pos.shown) ∧
    (let s := fed true (deck .ff)
     s.link.feed = true ∧ (after .halt s).link.feed = true ∧ (after .halt s).mech.mode ≠ s.mech.mode) ∧
    (let s := fed true (tuned station)
     s.link.feed = true ∧ (after (.tune 101) s).link.feed = true ∧ (after (.tune 101) s).tun.source ≠ s.tun.source) ∧
    (let s := raise .feed 1 0 (deck .halted)
     s.link.feed = false ∧ (after .null s).link.feed = false ∧ ((after .null s).link.notices.get .feed).isSome = true) := by
  decide +kernel

theorem test_meets_OnlyACodeOpensTheLock :
    (∀ code, Instr.relock ≠ .unlock code) ∧ (∀ old new, Instr.relock ≠ .codeSet old new) ∧
    exec .null (lockedDeck .unlocked 5) = .next (after .null (lockedDeck .unlocked 5)) ∧
    (after .null (lockedDeck .unlocked 5)).lock.state = .unlocked :=
  ⟨(fun _ h => nomatch h), (fun _ _ h => nomatch h), rfl, by decide +kernel⟩

theorem test_meets_AnchoredStaysAnchored :
    (deck .play).mech.mode ≠ .loading ∧ exec .countingStep (deck .play) = .next (after .countingStep (deck .play)) ∧
    (anchoredP (deck .play)).isSome = true ∧ (after .countingStep (deck .play)).pos.place.isSome = true :=
  ⟨by decide, rfl, by decide, by decide +kernel⟩

theorem test_meets_FrameCarriesRequest :
    wellFormed (.titleName 12 3 (List.replicate 27 0x41)) = true ∧
    (Instr.spell (.titleName 12 3 (List.replicate 27 0x41))).map (·.2.length) = some 31 ∧
    wellFormed (.titleName 12 3 (List.replicate 26 0x41)) = true ∧
    (Instr.spell (.titleName 12 3 (List.replicate 26 0x41))).map (·.2.length) = some 30 ∧
    (Instr.spell .null).map (·.2.length) = some 0 := by decide +kernel

theorem test_meets_FramesThatCarryNothing :
    (let s := { deck .halted with link := { (deck .halted).link with buffer := .pending } }
     (Instr.spell .play).isSome = true ∧ s.mainPower = true ∧ s.link.buffer = .pending) ∧
    spellsNone 0xFF [] = true ∧ ready (deck .halted) = true ∧ (deck .halted).link.buffer = .ready ⟨.ok, []⟩ ∧
    ({ deck .halted with link := { (deck .halted).link with sent := some ⟨.ok, [1, 2]⟩ } }).link.sent = some ⟨.ok, [1, 2]⟩ ∧
    parse 0xFF [] = .unknown ∧ parse 0 [0] = .range ∧
    parseCode 0 (List.replicate 31 0) ≠ .unknown ∧ 30 < (List.replicate 31 (0 : Byte)).length := by decide +kernel

theorem test_meets_ReadsOfTheLink :
    (∀ k ∈ [(0 : Nat), 1],
      let h := holding .play 52000 [title 63 50000 5000, { title 1 60000 5000 with slot := none }]
      let s := { h with cat := { h.cat with current := some k } }
      ready s = true ∧ s.cat.current = some k ∧ titleAt s 0 = some (title 63 50000 5000) ∧ (title 63 50000 5000).slot = some 63 ∧
      titleAt s 1 = some { title 1 60000 5000 with slot := none } ∧ cassetteOf s 12 = some (cassette 2) ∧
      (cassette 2).titles.Nodup ∧ (cassette 2).titles[1]? = some 1) ∧
    ready (deck .halted) = true ∧ (deck .halted).cat.current = none ∧ nextProgramme (deck .halted) = none ∧
    (let s := timed (programme .waiting)
     ready s = true ∧ nextProgramme s = some 2 ∧ progAt s 2 = some (programme .waiting) ∧ (programme .waiting).waits = true) := by
  decide +kernel

/-- R40, R48: −1 HU at STD shows as −1 s, and the figures without a load, from a pair, from a total and from neither. -/
theorem test_counter_and_remaining :
    (let h := holding .halted 0 []
     counterValue { h with pos := { h.pos with place := some ⟨-1, .unanchored⟩ } } = .seconds (-1)) ∧
    State.reset.pos.place = none ∧
    (let h := holding .halted 1048575 []
     let c := { h with settings := { Settings.factory with counterMode := .remain } }
     counterValue c = .unknown ∧ c.pos.pair = none ∧ c.cue.identity.tag.bind (cassetteOf c) = some (cassette 0) ∧
      remaining { c with pos := { c.pos with pair := some ⟨100, 1048475⟩ } } = some 0 ∧
      remaining { c with cat := { c.cat with cassettes := [{ cassette 0 with total := some 1048574 }] } } = some 0) := by
  decide +kernel

theorem test_meets_NoticesRaisedAndCollected :
    ready State.reset = true ∧ Fresh State.reset ∧
    (let s := raise .motion 1 0 (deck .halted)
     NoticeKind.order.filter (fun j => (s.link.notices.get j).isSome) = [.power, .motion, .clock] ∧
     s.link.notices.get .motion = some ⟨1, 0, false⟩ ∧ s.link.notices.get .feed = none) ∧
    (let s := raise .store 0 31 (raise .motion 1 0 (deck .halted))
     ready s = true ∧ s.link.notices.get .store = some ⟨0, 31, false⟩) ∧
    (let s := raise .feed 1 0 { deck .halted with link := { (deck .halted).link with notices := .empty } }
     ready s = true ∧ NoticeKind.order.filter (fun j => (s.link.notices.get j).isSome) = [.feed] ∧
     s.link.notices.get .feed = some ⟨1, 0, false⟩) := by
  refine ⟨by decide +kernel, ⟨rfl, rfl, fun _ => rfl, (fun h => nomatch h), rfl⟩, by decide +kernel⟩

theorem test_meets_SettingsAreWritten :
    ready State.reset = true ∧ State.reset.mech.mode = .empty ∧ ready (deck .play) = true ∧ (deck .play).mech.mode ≠ .empty ∧
    isSource 101 = true ∧ presetEmpty (deck .play) 101 = false ∧ wiping (deck .play) .presets = false ∧
    isSource 99 = true ∧ presetEmpty (deck .play) 99 = true ∧ isSource 100 = false ∧ isSource 103 = false ∧
    (ready (wipingDeck .presets) = true ∧ presetEmpty (wipingDeck .presets) 101 = false ∧ wiping (wipingDeck .presets) .presets = true) ∧
    (deck .play).tun.owner ≠ .scan ∧
    (let s := { deck .play with tun := { (deck .play).tun with owner := .scan } }
     ready s = true ∧ s.tun.owner = .scan) ∧
    ready (lined .stopKey .ejectKey .halted) = true ∧ lineFnCode (lined .stopKey .ejectKey .halted).settings.line2 = 3 ∧
    lineFnCode (lined .stopKey .ejectKey .halted).settings.line1 = 4 ∧ (lined .stopKey .ejectKey .halted).tim.ext = .none ∧
    (deck .play).pos.place = some ⟨1000, .exact⟩ ∧ State.reset.pos.place = none ∧
    obeying (deck .ready) = true ∧ (deck .ready).mech.mode = .ready := by decide +kernel

/-- A deck whose EXT-REC line has started an external recording, still threading. -/
def extStarting : State :=
  let s := lined .extRec .none .threading
  { s with
    mech := { s.mech with target := some ⟨.recording, .timer⟩ }
    tun := { s.tun with owner := .timer, saved := some 101 }
    tim := { s.tim with ext := .starting } }

/-- A deck whose EXT-REC line has an external recording running. -/
def extRecording : State :=
  let r := recordingDeck .recording
  { r with
    settings := { Settings.factory with line1 := .extRec }
    mech := { r.mech with cause := .external }
    tun := { r.tun with owner := .timer }
    tim := { r.tim with ext := .recording } }

theorem test_meets_ext :
    (let s := extStarting
     ready s = true ∧ s.tim.ext = .starting ∧ s.settings.line1 = .extRec ∧ lineFnCode s.settings.line2 = 0 ∧ s.tim.run = none ∧
      s.hold.power = .on ∧ s.mech.dewLock = false ∧ s.mech.mode = .threading ∧ s.pins.cam ≠ .threadPos ∧
      s.mech.target = some ⟨.recording, .timer⟩ ∧ s.cue.seek = none ∧ s.tun.owner = .timer) ∧
    (let s := extRecording
     ready s = true ∧ s.tim.ext = .recording ∧ s.settings.line1 = .extRec ∧ lineFnCode s.settings.line2 = 0 ∧
      s.mech.mode = .recording ∧ s.mech.cause = .external ∧ s.tim.run = none ∧ (∀ p ∈ s.tim.programmes, p.waits = false) ∧
      s.cue.writer = .idle ∧ s.cue.seek = none ∧ s.mech.target = none ∧ s.tun.owner = .timer ∧ s.hold.power = .on ∧
      s.cat.recording = some ⟨55000, true, some 0, some 12⟩ ∧
      titleAt s 0 = some { title 7 55000 10 with isOpen := true }) := by decide +kernel

/-- TUNE and TUNE-STEP: with one preset used, the next number that qualifies is met after 98 that do not. -/
theorem test_meets_SettingsAreWritten_tune :
    (let s := tuned station
     ready s = true ∧ wiping s .presets = false ∧ s.hold.power = .on ∧ s.tun.owner = .view ∧ presetAt s 1 = some station ∧
      station.used = true ∧ station.locked = false ∧ station.skip = false ∧ s.tun.presets.length ≤ 100 ∧ isSource 1 = true ∧
      presetAt s 99 = some Preset.factory ∧ Preset.factory.used = false ∧ s.tun.source = 1 ∧ (1 + 98) % 99 + 1 = 1 ∧
      (1 + 97 - 98) % 99 + 1 = 1 ∧
      (∀ j ∈ List.range 98, (presetAt s ((1 + j) % 99 + 1)).any (·.used) = false ∧
        (presetAt s ((1 + 97 - j) % 99 + 1)).any (·.used) = false)) ∧
    (let s := { tuned station with tun := { (tuned station).tun with source := 99 } }
     ready s = true ∧ s.hold.power = .on ∧ s.tun.owner = .view ∧ (99 + 0) % 99 + 1 = 1 ∧ presetAt s 1 = some station) ∧
    (ready (wipingDeck .presets) = true ∧ wiping (wipingDeck .presets) .presets = true) ∧ isSource 100 = false ∧
    (ready (powered .off .halted) = true ∧ (powered .off .halted).hold.power ≠ .on) ∧
    (let s := { tuned station with tun := { (tuned station).tun with owner := .record } }
     ready s = true ∧ s.tun.owner ≠ .view) ∧
    (let s := tuned { station with locked := true }
     ready s = true ∧ presetAt s 1 = some { station with locked := true } ∧ s.lock.state ≠ .unlocked) ∧
    (ready (deck .halted) = true ∧ ∀ n ∈ List.range 100, (presetAt (deck .halted) n).any (·.used) = false) := by decide +kernel

theorem test_meets_SoftResetRestartsTheBlocks :
    ∀ pl ∈ [none, (deck .play).pos.place], ∀ m ∈ [Mode.play, .ejecting],
    let s := fed true { deck m with pos := { (deck m).pos with place := pl } }
    ready s = true ∧ s.tim.run = none ∧ s.tim.ext = .none ∧ s.mech.cause = .none ∧ s.hold.power ≠ .timerStandby := by
  decide +kernel

theorem test_meets_SoftResetRestartsTheBlocks_recording :
    ∀ w ∈ [Writer.idle, .writing 12 7 5],
      let h := recordingOver .recording [title 1 60000 500]
      let s := { h with cue := { h.cue with writer := w } }
      ready s = true ∧ s.tim.run = none ∧ s.tim.ext = .none ∧ s.mech.cause = .manual ∧ s.hold.power ≠ .timerStandby ∧
      s.cat.recording = some ⟨55000, true, some 0, some 12⟩ ∧ titleAt s 0 = some { title 7 55000 10 with isOpen := true } ∧
      (titlesOf s 12).find? (fun y => y.2.slot == some 7) = some (0, { title 7 55000 10 with isOpen := true }) := by
  decide +kernel

theorem test_meets_TransportRequestsRefused :
    isTransport .seekEnd = true ∧ isTransport .eject = true ∧
    (let s := { deck .play with pins := { (deck .play).pins with powerWarning := true } }
     ready s = true ∧ s.pins.powerWarning = true) ∧
    (ready (powered .timerStandby .play) = true ∧ (powered .timerStandby .play).hold.power = .timerStandby) ∧
    (let s := { deck .play with tim := { (deck .play).tim with run := some ⟨2, .recording, .clear, .fixed .std, 0⟩ } }
     ready s = true ∧ s.tim.run.isSome = true ∧ s.hold.power = .on) ∧
    (ready (powered .off .play) = true ∧ (powered .off .play).hold.power = .off) ∧
    (ready (deck .empty) = true ∧ (deck .empty).hold.power = .on ∧ (deck .empty).tim.run = none) ∧
    (let s := { deck .fault with mech := { (deck .fault).mech with stuck := true } }
     ready s = true ∧ s.tim.run = none ∧ s.mech.mode = .fault ∧ s.mech.stuck = true) ∧
    (obeying (deck .halted) = true ∧ ready (deck .halted) = true ∧ aimOf (.search (.of .fwd)) .halted = none) ∧
    (let s := { deck .recPause with mech := { (deck .recPause).mech with tab := false } }
     ready s = true ∧ obeying s = true ∧ s.mech.tab = false ∧ s.mech.mode = .recPause) := by decide +kernel

theorem test_meets_TransportWithoutMotion :
    (ready (deck .ready) = true ∧ free (deck .ready) = true ∧ Mode.idleThreaded .ready = true ∧
      aimOf .stop .ready = some .ready) ∧
    (ready (deck .ff) = true ∧ free (deck .ff) = true ∧ Mode.unthreaded .ff = true ∧ aimOf (.wind (.of .ff)) .ff = some .ff) ∧
    (ready (deck .play) = true ∧ free (deck .play) = true ∧ Mode.idleThreaded .play = true ∧ Mode.idleThreaded .still = true ∧
      aimOf .pause .play = some .still) ∧
    (ready (deck .rew) = true ∧ free (deck .rew) = true ∧ Mode.unthreaded .halted = true ∧ aimOf .halt .rew = some .halted) := by
  decide +kernel

theorem test_meets_TransportThroughMotion :
    (ready (deck .halted) = true ∧ free (deck .halted) = true ∧ aimOf .play .halted = some .play ∧
      (deck .halted).pins.cam = .haltPos ∧ Mode.idleThreaded .play = true ∧ (deck .halted).mech.tab = true) ∧
    (ready (deck .ff) = true ∧ free (deck .ff) = true ∧ Mode.winding .ff = true ∧ aimOf .play .ff = some .play ∧
      (deck .ff).pins.cam = .haltPos) ∧
    (ready (deck .still) = true ∧ free (deck .still) = true ∧ (deck .still).pins.cam = .threadPos ∧
      aimOf .halt .still = some .halted ∧ Mode.unthreaded .halted = true) ∧
    (let s := { deck .unthreading with mech := { (deck .unthreading).mech with target := some ⟨.halted, .host⟩ } }
     ready s = true ∧ obeying s = true ∧ s.cue.seek = none ∧ s.mech.cause = .none ∧ s.mech.target = some ⟨.halted, .host⟩ ∧
      aimOf .play .unthreading = some .play ∧ s.pins.cam ≠ .haltPos) := by decide +kernel

theorem test_meets_RecordOpensATitle :
    let s := holding .play 55000 [title 1 500 50000]
    ready s = true ∧ free s = true ∧ s.mech.mode.idleThreaded = true ∧ s.mech.tab = true ∧ startOn s = none ∧
    s.tun.owner = .view ∧ s.tun.scan = none ∧ s.cue.writer = .idle ∧ s.cue.identity.tag = some 12 ∧
    cassetteOf s 12 = some (cassette 1) ∧ s.pos.place = some ⟨55000, .exact⟩ ∧ freeRecord s.cat = some 1 ∧
    (titlesOf s 12).length < 63 ∧ limitFrom s 12 55000 = none := by decide +kernel

/-- RECORD inside a title, protected or not, near its start or far from it; and with identity NONE, room in the catalogue or not. -/
theorem test_meets_RecordOpensATitle_met :
    (∀ x ∈ [{ title 1 50000 10000 with isProtected := true }, title 1 50000 10000, title 1 54901 200, title 1 55000 200],
      let s := holding .ready 55000 [x]
      ready s = true ∧ free s = true ∧ s.mech.mode.idleThreaded = true ∧ s.mech.tab = true ∧ s.tun.owner = .view ∧
      s.tun.scan = none ∧ s.cue.writer = .idle ∧ s.pos.place = some ⟨55000, .exact⟩ ∧ s.cue.identity.tag = some 12 ∧
      (anchoredP s).isSome = true ∧ cassetteOf s 12 = some (cassette 1) ∧
      (titlesOf s 12).find? (fun z : Nat × Title => z.2.anchored && decide (z.2.start ≤ 55000) && decide (55000 < z.2.start + z.2.length)) =
        some (0, x) ∧
      (x.isProtected = false → limitFrom s 12 55000 = none) ∧ x.tag = 12 ∧ (cassette 1).dead.length < 8 ∧
      4 * fr s = 100) ∧
    (∀ n ∈ [0, 48],
      let s := { deck .ready with cat := { (deck .ready).cat with
        cassettes := (List.range n).map fun k => { cassette 0 with tag := k + 100, place := k } } }
      ready s = true ∧ free s = true ∧ s.mech.mode.idleThreaded = true ∧ s.mech.tab = true ∧ s.tun.owner = .view ∧
      s.tun.scan = none ∧ s.cue.writer = .idle ∧ s.pos.place = some ⟨1000, .exact⟩ ∧ s.cue.identity = .none ∧
      s.cat.cassettes.length = n ∧ 1 ≤ s.settings.nextTag ∧ s.settings.nextTag ≤ 1023 ∧ freeRecord s.cat = some 0) := by
  decide +kernel

theorem test_meets_RecordingPausesAndEnds :
    ∀ m ∈ [Mode.recording, Mode.recPause],
      let s := recordingDeck m
      ready s = true ∧ obeying s = true ∧ s.mech.target = none ∧ s.cue.seek = none ∧ s.mech.cause = .manual ∧
      s.cue.writer = .idle ∧ limitReached { s with mech := { s.mech with mode := .recording } } = false ∧ s.mech.tab = true ∧
      s.mech.mode = m ∧ s.mech.mode.inRecording = true ∧ s.tun.owner = .record ∧ s.tun.saved = some 101 ∧
      s.cat.recording = some ⟨55000, true, some 0, some 12⟩ ∧
      titleAt s 0 = some { title 7 55000 10 with isOpen := true } := by decide +kernel

/-- New tape up to 55,011: titles that it covers in part, whole, and not at all. -/
theorem test_meets_RecordingPausesAndEnds_trims :
    let ts := [title 1 55010 500, title 2 55000 50, title 3 54990 10, title 4 55011 300, { title 5 55005 300 with anchored := false }]
    let s := recordingOver .recording ts
    s.mainPower = true ∧ s.mech.mode = .recording ∧ s.mech.forward = true ∧ s.tim.run = none ∧ s.cue.seek = none ∧
    s.pos.memoryStop = false ∧ s.pos.place = some ⟨55010, .exact⟩ ∧
    s.cat.recording = some ⟨55000, true, some 0, some 12⟩ ∧ s.cue.identity.tag = some 12 ∧ cassetteOf s 12 = some (cassette 6) ∧
    (∀ y ∈ titlesOf s 12, y.2.tag = 12 ∧ y.2.isProtected = false) ∧ s.cue.writer = .idle ∧
    titlesOf s 12 = (List.range 6).zip ({ title 7 55000 10 with isOpen := true } :: ts) := by decide +kernel

/-- A relative title of the load, long enough or not, that an anchor moves to 55,000, among titles of every clause. -/
theorem test_meets_RecordingPausesAndEnds_rebase :
    ∀ n ∈ [1000, 50],
      let x := { title 9 5000 n with anchored := false }
      let ts := [x, title 1 50000 10000, title 2 55990 500, title 3 55000 60, title 4 54950 100, title 5 70000 300]
      let h := holding .rew 0 ts
      let s := { h with
        pos := { h.pos with place := some ⟨-50000, .unanchored⟩ }
        cat := { h.cat with thisLoad := [0] } }
      s.mainPower = true ∧ s.tim.run = none ∧ s.cue.seek = none ∧ s.pos.memoryStop = false ∧ s.mech.mode = .rew ∧
      s.cat.recording = none ∧ s.pos.place = some ⟨-50000, .unanchored⟩ ∧ s.cat.thisLoad = [0] ∧ titleAt s 0 = some x ∧
      x.anchored = false ∧ x.isOpen = false ∧ x.tag = 12 ∧ cassetteOf s 12 = some (cassette 6) ∧ 0 ∈ (cassette 6).titles ∧
      (∀ y ∈ titlesOf s 12, y.2.tag = 12) ∧ max 0 (x.start - -50000) = 55000 ∧ titlesOf s 12 = (List.range 6).zip ts := by
  decide +kernel

theorem test_meets_EjectAndKeys :
    (∀ m ∈ [Mode.halted, Mode.play, Mode.empty], ready (deck m) = true ∧ free (deck m) = true ∧ (deck m).mech.mode = m) ∧
    (∀ c ∈ [Cam.haltPos, .between, .threadPos], ∀ stuck ∈ [true, false],
      let h := deck .fault
      let s := { h with
        pins := { h.pins with cam := c }
        mech := { h.mech with faultReason := some .drum, stuck := stuck } }
      ready s = true ∧ free s = true ∧ s.mech.mode = .fault ∧ s.mech.stuck = stuck ∧ s.pins.cam = c) ∧ (deck .play).pins.cam = .threadPos ∧
    lineAssigned (deck .halted) .stopKey = false ∧ lineAssigned (deck .halted) .ejectKey = false ∧
    (let s := lined .stopKey .ejectKey .ff
     s.mainPower = true ∧ lineAssigned s .stopKey = true ∧ free s = true ∧ s.mech.mode.winding = true) ∧
    (let s := lined .stopKey .ejectKey .empty
     s.mainPower = true ∧ lineAssigned s .ejectKey = true ∧ free s = true ∧ s.mech.faultEject = false ∧ s.mech.mode = .empty) := by
  decide +kernel

theorem test_meets_SeeksRefusedAndBegun :
    (ready (recordingDeck .recording) = true ∧ obeying (recordingDeck .recording) = true ∧
      (recordingDeck .recording).mech.mode.inRecording = true) ∧
    (ready (deck .halted) = true ∧ obeying (deck .halted) = true ∧ (deck .halted).cue.identity = .none) ∧
    (∀ m ∈ [Mode.halted, .ff, .rew], ∀ p ∈ [(48499 : Int), 48500, 51500, 51501],
      let s := holding m p [title 1 50000 5000]
      ready s = true ∧ free s = true ∧ s.mech.mode.unthreaded = true ∧ s.pins.cam = .haltPos ∧ s.cue.identity.tag = some 12 ∧
      anchoredP s = some p ∧ titleBySlot s 12 1 = some (0, title 1 50000 5000) ∧ titleBySlot s 12 2 = none) ∧
    (60 * (fr (holding .halted 48499 [title 1 50000 5000]) : Int) < 50000 - 48499 ∧ apart 48500 50000 ≤ 60 * 25 ∧
      60 * (25 : Int) < 51501 - 50000 ∧ 60 * (25 : Int) < endTarget (holding .halted 48499 [title 1 50000 5000]) 12 - 48499) ∧
    (∀ p ∈ [(54900 : Int), 57000],
      let s := holding .halted p [title 1 50000 5000]
      ready s = true ∧ free s = true ∧ anchoredP s = some p ∧
      (apart p (endTarget s 12) ≤ 60 * fr s ∨ 60 * (fr s : Int) < p - endTarget s 12)) ∧
    (let s := holding .halted 0 [{ title 1 50000 5000 with anchored := false }]
     ready s = true ∧ obeying s = true ∧ titleBySlot s 12 1 = some (0, { title 1 50000 5000 with anchored := false })) ∧
    (let s := { holding .halted 0 [title 1 50000 5000] with
       pos := { Pos.noLoad false .absent with place := some ⟨0, .unanchored⟩ } }
     ready s = true ∧ obeying s = true ∧ s.cue.identity.tag = some 12 ∧
      titleBySlot s 12 1 = some (0, title 1 50000 5000) ∧ anchoredP s = none) := by decide +kernel

/-- R70: a highest anchored title that stands first or last in its list, and none that is anchored. -/
theorem test_meets_SeeksRefusedAndBegun_target :
    (∀ ts ∈ [[title 1 50000 5000, title 2 500 100], [title 2 500 100, title 1 50000 5000]],
      let s := holding .halted 0 (ts ++ [{ title 3 60000 10 with anchored := false }])
      ∃ n ∈ [0, 1], ((titlesOf s 12)[n]?).map (·.2) = some (title 1 50000 5000) ∧
        ∀ m ∈ [0, 1, 2], m ≠ n → (((titlesOf s 12)[m]?).any fun z => z.2.anchored && decide (50000 ≤ z.2.start)) = false) ∧
    (let s := holding .halted 0 [{ title 3 60000 10 with anchored := false }]
     ∀ y ∈ titlesOf s 12, y.2.anchored = false) := by decide +kernel

/-- A deck at a position, seeking the title of slot 1, which starts at 50,000 or elsewhere, with or without its mark. -/
def seeking (m : Mode) (p start : Int) (ph : SeekPhase) (noCue : Bool) : State :=
  let s := holding m p [{ title 1 start 5000 with noCue := noCue }]
  { s with
    pins := { s.pins with cam := if m.winding then .haltPos else .threadPos }
    mech := { s.mech with drumLock := true, target := if m = .threading then some ⟨.ready, .seek⟩ else none }
    pos := { s.pos with wind := if m.winding then some ⟨71680, 0, 7, Config.reel .s625 .b⟩ else none }
    cue := { s.cue with seek := some ⟨.title 12 1, ph⟩ } }

/-- The phases of a seek, each at the last position before its end and at one further off. -/
theorem test_meets_SeeksRefusedAndBegun_phases :
    (∀ z ∈ [(Mode.ff, (49219 : Int), (50000 : Int), SeekPhase.wind, false), (.ff, 49220, 50000, .wind, false),
        (.threading, 49900, 50000, .wind, false), (.threading, 49901, 50000, .approach, false),
        (.threading, 49900, 50000, .approach, true), (.threading, 0, 50, .wind, true),
        (.searchRev, 49501, 50000, .approach, false), (.searchRev, 49502, 50000, .approach, true),
        (.searchRev, 1, 50, .approach, false), (.searchRev, 50001, 50000, .back, false), (.searchRev, 50002, 50000, .back, false),
        (.searchFwd, 51499, 50000, .scan, false), (.searchFwd, 51500, 50000, .scan, false),
        (.play, 49998, 50000, .playIn, true), (.play, 49999, 50000, .playIn, true)],
      let s := seeking z.1 z.2.1 z.2.2.1 z.2.2.2.1 z.2.2.2.2
      s.mainPower = true ∧ s.tim.run = none ∧ s.mech.cause = .none ∧ s.pos.memoryStop = false ∧ hostSeek s = true ∧
      seekStart s (.title 12 1) = some z.2.2.1 ∧ seeksMark s (.title 12 1) = !z.2.2.2.2 ∧ s.mech.mode = z.1 ∧
      s.cue.seek = some ⟨.title 12 1, z.2.2.2.1⟩ ∧ s.pos.place = some ⟨z.2.1, .exact⟩ ∧ s.cat.recording = none ∧
      s.mech.forward = !s.mech.mode.reverse ∧ (s.mech.mode = .ff → s.pins.cam = .haltPos ∧ s.pos.wind.isSome = true) ∧
      (s.mech.mode = .threading → s.mech.drumLock = true ∧ s.mech.target = some ⟨.ready, .seek⟩) ∧
      (s.mech.mode ≠ .threading → s.mech.target = none)) ∧
    (71680 + 0) / 256 = 280 ∧ clampP .estimated (49220 + 280) = 49500 := by decide +kernel

/-- A seek about to find its mark, and seeks that a request, dew or the retiring of the title ends. -/
theorem test_meets_SeeksRefusedAndBegun_ends :
    (let h := seeking .searchFwd 49990 50000 .scan false
     let s := { h with pos := { h.pos with place := some ⟨49990, .estimated⟩ } }
     s.mainPower = true ∧ s.tim.run = none ∧ s.mech.target = none ∧ s.mech.cause = .none ∧ hostSeek s = true ∧
      ((List.range 16).map (fun k => markPulse 12 1 (k + 9)) ++ [markPulse 12 1 25]).length = 17 ∧
      (((List.range 17).map fun k => markPulse 12 1 (k + 9)).filter id).length % 2 = 0 ∧
      bitsValue (((List.range 17).map fun k => markPulse 12 1 (k + 9)).take 10) = 12 ∧
      bitsValue ((((List.range 17).map fun k => markPulse 12 1 (k + 9)).drop 10).take 6) = 1 ∧
      s.mech.mode = .searchFwd ∧ s.cue.identity = .read 12 ∧ (cassetteOf s 12).isSome = true ∧
      titleBySlot s 12 1 = some (0, title 1 50000 5000) ∧ slotDead s 12 1 = false ∧
      s.pos.place.map (·.quality) = some .estimated ∧ s.cat.thisLoad = [] ∧ s.cat.recording = none ∧
      s.pos.memoryStop = false ∧ (∀ c ∈ s.cat.cassettes, orderTitles (titlesOf s c.tag) = titlesOf s c.tag)) ∧
    (let s := seeking .ff 1000 50000 .wind false
     ready s = true ∧ obeying s = true ∧ s.mech.mode.winding = true ∧ hostSeek s = true ∧ s.mech.target = none ∧
      s.mech.cause = .none ∧ wiping s .catalogue = false ∧ (titlesOf s 12)[0]? = some (0, title 1 50000 5000) ∧
      (title 1 50000 5000).isProtected = false ∧ (title 1 50000 5000).locked = false) := by decide +kernel

theorem test_meets_CatalogueIsRead :
    ready (wipingDeck .catalogue) = true ∧ wiping (wipingDeck .catalogue) .catalogue = true ∧
    ready (deck .halted) = true ∧ wiping (deck .halted) .catalogue = false ∧ cassetteOf (deck .halted) 1023 = none ∧
    (let s := holding .halted 0 [title 63 50000 5000]
     ready s = true ∧ s.cat.cassettes[0]? = some (cassette 1) ∧ s.cat.cassettes.length ≤ 1 ∧ cassetteOf s 12 = some (cassette 1) ∧
     (titlesOf s 12)[0]? = some (0, title 63 50000 5000) ∧ (titlesOf s 12).length ≤ 1 ∧ titleBySlot s 12 1 = none ∧
     titleBySlot s 12 63 = some (0, title 63 50000 5000) ∧ isSource 3 = true ∧
     (allTitles s).find? (fun y => ((0 : Nat) < y.2.tag ∨ (y.2.tag = 0 ∧ 0 < y.1)) ∧ y.2.source = 3) =
       some (0, title 63 50000 5000) ∧
     (∀ y ∈ allTitles s, ¬(((12 : Nat) < y.2.tag ∨ (y.2.tag = 12 ∧ 0 < y.1)) ∧ y.2.source = 3))) ∧
    (cassette 1).total = none ∧ ({ cassette 1 with total := some 5 }).total = some 5 := by decide +kernel

theorem test_meets_CatalogueIsRead_layouts :
    ({ cassette 1 with total := some 332170 }).total = some 332170 ∧
    ({ title 1 0 500 with origin := .programme 15 }).origin = .programme 15 ∧ 15 < 16 := by decide +kernel

theorem test_meets_CatalogueFieldsSet :
    let s := holding .halted 0 [title 1 50000 5000, { title 2 60000 10 with isOpen := true }]
    ready s = true ∧ wiping s .catalogue = false ∧ cassetteOf s 12 = some (cassette 2) ∧
    (List.replicate 10 (0x7E : Byte)).length ≤ 10 ∧ (∀ x ∈ List.replicate 10 (0x7E : Byte), 0x20 ≤ x ∧ x ≤ 0x7E) ∧
    10 < (List.replicate 11 (0x20 : Byte)).length ∧ (∃ x ∈ [(0x7F : Byte)], x < 0x20 ∨ 0x7E < x) ∧
    (titlesOf s 12)[0]? = some (0, title 1 50000 5000) ∧
    (titlesOf s 12)[1]? = some (1, { title 2 60000 10 with isOpen := true }) ∧ s.mech.mode ≠ .recording ∧
    (∀ x ∈ List.replicate 12 (0x20 : Byte), 0x20 ≤ x ∧ x ≤ 0x7E) := by decide +kernel

theorem test_meets_CassetteIsNamed :
    (ready State.reset = true ∧ State.reset.pos.place = none) ∧
    (let s := holding .halted 0 []
     ready s = true ∧ s.cue.identity = .read 12 ∧ s.pos.place.isSome = true ∧ s.cat.recording = none ∧
      cassetteOf s 12 = some (cassette 0)) ∧
    (let s := { deck .halted with cat := { (deck .halted).cat with recording := some ⟨0, false, none, none⟩ } }
     ready s = true ∧ s.pos.place.isSome = true ∧ s.cue.identity = .none ∧ s.cat.recording.isSome = true) ∧
    (let s := { deck .halted with cat := { (deck .halted).cat with
       cassettes := (List.range 48).map fun k => { cassette 0 with tag := k + 1, place := k } } }
     ready s = true ∧ s.cue.identity = .none ∧ s.cat.recording = none ∧ 48 ≤ s.cat.cassettes.length ∧
      cassetteOf s 48 = some { cassette 0 with tag := 48, place := 47 }) ∧
    (let s := { deck .halted with settings := { Settings.factory with nextTag := 1023 } }
     ready s = true ∧ s.pos.place.isSome = true ∧ s.cue.identity = .none ∧ s.cat.recording = none ∧
      s.cat.cassettes.length < 48 ∧ s.cue.seek = none ∧ s.settings.nextTag = 1023) ∧
    (∀ k ∈ [12, 3], let s := { holding .halted 0 [] with cue := { Cue.initial with identity := .asserted k } }
      ready s = true ∧ s.pos.place.isSome = true ∧ s.cat.recording = none ∧ s.cue.identity = .asserted k ∧ s.cue.seek = none ∧
      cassetteOf s 12 = some (cassette 0)) := by decide +kernel

theorem test_meets_CassettesAndTitlesRetire :
    (∀ x ∈ [title 1 0 5, { title 1 0 5 with isOpen := true }, { title 1 0 5 with isProtected := true },
        { title 1 0 5 with locked := true }],
      let s := holding .halted 0 [x]
      ready s = true ∧ wiping s .catalogue = false ∧ cassetteOf s 12 = some (cassette 1) ∧ titlesOf s 12 = [(0, x)] ∧
      s.cat.recording = none ∧ s.cue.seek = none ∧ s.lock.state ≠ .unlocked ∧ (titlesOf s 12)[0]? = some (0, x) ∧ x.tag = 12 ∧
      s.mech.mode ≠ .recording ∧ (cassette 1).dead.length < 8) := by decide +kernel

theorem test_meets_PresetReadAndWritten :
    let s := tuned station
    ready s = true ∧ wiping s .presets = false ∧ presetAt s 1 = some station ∧ presetAt s 99 = some Preset.factory ∧
    s.hold.power ≠ .timerStandby ∧ bandCode .uhf = 2 ∧ station.locked = false ∧ s.tun.source = 1 ∧ s.tun.source ≠ 99 ∧
    s.tun.owner = .view ∧ station.band = .high ∧ station.base = 5000 ∧ station.aft = true ∧
    (∀ y ∈ List.replicate 5 (0x7E : Byte), 0x20 ≤ y ∧ y ≤ 0x7E) := by decide +kernel

theorem test_meets_CurrentPresetKept :
    (let s := tuned station
     ready s = true ∧ wiping s .presets = false ∧ s.hold.power = .on ∧ isLine s.tun.source = false ∧ s.tun.owner = .view ∧
      presetAt s 99 = some Preset.factory ∧ Preset.factory.locked = false ∧ s.tun.working.aft = true ∧ s.tun.source = 1 ∧
      presetAt s 1 = some station ∧ clampI (-32) 31 (station.fine + 28) = 31 ∧ clampI (-32) 31 (station.fine + 28) ≠ station.fine ∧
      s.tun.working.offset = 0 ∧ clampI (-32) 31 (station.fine + 0) = station.fine) ∧
    (let s := { tuned station with tun := { (tuned station).tun with working := ⟨.high, 5000, 3, true, 1, -96⟩ } }
     ready s = true ∧ s.tun.source = 1 ∧ presetAt s 1 = some station ∧ s.tun.working.offset ≠ 0) := by decide +kernel

theorem test_meets_PresetsSwappedAndCleared :
    (let s := tuned station
     ready s = true ∧ wiping s .presets = false ∧ wiping s .programmes = false ∧ s.hold.power ≠ .timerStandby ∧
      presetAt s 1 = some station ∧ presetAt s 99 = some Preset.factory ∧ station.locked = false ∧ s.tun.owner = .view ∧
      s.tim.programmes.length = 16 ∧ (∀ q ∈ s.tim.programmes, q.state = .empty ∨ q.source ≠ 1) ∧ s.settings.extSource ≠ 1 ∧
      station.used = true ∧ Preset.factory.used = false) ∧
    (let s := { tuned station with settings := { Settings.factory with extSource := 99 } }
     ready s = true ∧ s.settings.extSource = 99) := by decide +kernel

theorem test_meets_SearchStartsAndStops :
    (let s := tuned station
     ready s = true ∧ wiping s .presets = false ∧ s.hold.power = .on ∧ s.tun.owner = .view ∧ presetAt s 99 = some Preset.factory ∧
      s.tun.working.word + 8 ≤ 16383 ∧ s.tun.scan = none) ∧
    (let s := { tuned station with tun := { (tuned station).tun with working := ⟨.high, 16375, 0, true, 1, 0⟩ } }
     ready s = true ∧ s.tun.working.word + 8 ≤ 16383) ∧
    (let s := { tuned station with tun := { (tuned station).tun with
       owner := .scan, saved := some 1, scan := some ⟨.next, 1, .sweep, .low, 0, false, ⟨.low, 0, 0, true, 0, 0⟩⟩ } }
     ready s = true ∧ s.tun.scan.isSome = true ∧ s.tun.saved = some 1 ∧ presetAt s 1 = some station ∧ station.used = true) := by
  decide +kernel

/-- With every preset used a STORE search has nowhere to store. -/
theorem test_meets_ScanFull :
    let s := { deck .halted with tun := { (deck .halted).tun with presets := List.replicate 99 station } }
    ready s = true ∧ wiping s .presets = false ∧ s.hold.power = .on ∧ s.tun.owner = .view ∧
      ∀ n p, 99 ≤ n → presetAt s n = some p → p.used = true := by
  refine ⟨by decide +kernel, by decide, by decide, by decide, fun n p _ h => ?_⟩
  have hm : p ∈ List.replicate 99 station := by
    unfold presetAt at h
    split at h
    · cases h
    · exact List.mem_of_getElem? h
  rw [List.eq_of_mem_replicate hm]
  rfl

theorem test_meets_TunerSamples :
    (let s := { tuned station with tun := { (tuned station).tun with aft := .settling, aftCount := 6 } }
     s.mainPower = true ∧ checkDue s = false ∧ aftRuns s.tun = true ∧ (140 : Nat) ≤ 128 + s.settings.aftWindow ∧
      128 ≤ 116 + s.settings.aftWindow ∧ s.tun.aftCount < 7 ∧ 128 + s.settings.aftWindow < 141 ∧ 115 + s.settings.aftWindow < 128 ∧
      -95 < s.tun.working.offset ∧ s.tun.working.offset < 95) ∧
    (let s := { tuned station with tun := { (tuned station).tun with
       aft := .settling, aftCount := 7, working := ⟨.high, 5000, 3, true, 1, 95⟩ } }
     s.mainPower = true ∧ checkDue s = false ∧ aftRuns s.tun = true ∧ 7 ≤ s.tun.aftCount ∧ 95 ≤ s.tun.working.offset ∧
      s.tun.aft ≠ .limit) ∧
    (let s := tuned { station with aft := false }
     s.mainPower = true ∧ checkDue s = false ∧ aftRuns s.tun = false) ∧
    (∀ c ∈ [true, false],
      let s := { tuned station with tun := { (tuned station).tun with
        owner := .scan, saved := some 1, scan := some ⟨.next, 1, .sweep, .low, 16375, c, ⟨.low, 0, 0, true, 0, 0⟩⟩ } }
      s.mainPower = true ∧ checkDue s = false ∧ s.tun.scan.map (·.phase) = some .sweep ∧ s.tun.scan.map (·.word) = some 16375) ∧
    (∀ k ∈ [6, 7],
      let s := { tuned station with tun := { (tuned station).tun with
        owner := .scan, aft := .settling, aftCount := k, saved := some 1
        scan := some ⟨.next, 1, .capture 100 62, .low, 100, false, ⟨.low, 0, 0, true, 0, 0⟩⟩ } }
      s.mainPower = true ∧ checkDue s = false ∧ s.tun.scan.map (·.phase) = some (.capture 100 62) ∧ s.tun.aftCount = k) := by
  decide +kernel

/-- AFT at the lower end of its range and in LIMIT; capture at its last sample, at its widest offsets, and about to succeed with a
candidate that is new or stored already. -/
theorem test_meets_TunerSamples_ends :
    (let s := { tuned station with tun := { (tuned station).tun with
       aft := .limit, aftCount := 0, working := ⟨.high, 5000, 3, true, 1, -96⟩ } }
     s.mainPower = true ∧ checkDue s = false ∧ aftRuns s.tun = true ∧ s.tun.working.offset ≤ -95 ∧ s.tun.aft = .limit) ∧
    (∀ z ∈ [(62, (0 : Int), 6, ScanMode.next), (63, 0, 6, .next), (5, 63, 0, .next), (5, -63, 0, .store), (5, 0, 7, .next),
        (5, 0, 7, .store)],
      let s := { tuned station with tun := { (tuned station).tun with
        owner := .scan, aft := .settling, aftCount := z.2.2.1, saved := some 1, working := ⟨.low, 100, 0, true, 1, z.2.1⟩
        scan := some ⟨z.2.2.2, 2, .capture 96 z.1, .low, 96, false, ⟨.low, 0, 0, true, 0, 0⟩⟩ } }
      s.mainPower = true ∧ checkDue s = false ∧ s.tun.scan.map (·.phase) = some (.capture 96 z.1) ∧ s.tun.aft = .settling ∧
      s.tun.aftCount = z.2.2.1 ∧ s.tun.working.offset = z.2.1 ∧ s.tun.scan.map (·.mode) = some z.2.2.2 ∧
      s.tun.presets.any (fun p => p.used && p.band == .low) = false ∧ presetAt s 2 = some Preset.factory ∧
      s.tun.scan.map (·.first) = some 2) ∧
    (let s := tuned { station with band := .low, base := 100, fine := 0 }
     s.tun.presets.any (fun p => p.used && p.band == .low && decide (apart (clampI 0 16383 (p.base + 2 * p.fine)) 100 ≤ 24)) = true) := by
  decide +kernel

theorem test_meets_ClockRequests :
    ready (deck .halted) = true ∧ (deck .halted).hold.valid = true ∧ (deck .halted).hold.day < 36524 ∧
    (deck .halted).hold.seconds < 86400 ∧ (deck .halted).tim.run = none ∧ (deck .halted).hold.power ≠ .timerStandby ∧
    (ready (powered .timerStandby .halted) = true ∧ (powered .timerStandby .halted).hold.power = .timerStandby) ∧
    (ready State.reset = true ∧ State.reset.hold.valid = false) ∧
    (let s := { deck .play with tim := { (deck .play).tim with run := some ⟨2, .recording, .clear, .fixed .std, 0⟩ } }
     ready s = true ∧ s.tim.run.isSome = true ∧ s.hold.power ≠ .timerStandby) ∧
    (let s := { deck .halted with hold := { (deck .halted).hold with day := 36524, seconds := 82799 } }
     ready s = true ∧ s.hold.valid = true ∧ s.hold.day = 36524 ∧ 82799 ≤ s.hold.seconds) ∧
    (let s := { deck .halted with hold := { (deck .halted).hold with day := 1 } }
     ready s = true ∧ s.hold.valid = true ∧ 0 < s.hold.day ∧ s.hold.day < 36524) ∧
    (let s := { deck .halted with hold := { (deck .halted).hold with day := 0, seconds := 3598 } }
     ready s = true ∧ s.hold.valid = true ∧ s.hold.day = 0 ∧ s.hold.seconds < 3599) := by decide +kernel

theorem test_meets_SecondEvents :
    (let s := { deck .halted with hold := { (deck .halted).hold with periodSecond := 598 } }
     s.hold.intact = true ∧ s.hold.staged = .none ∧ s.tim.run = none ∧ s.mainPower = true ∧ s.hold.seconds < 86399 ∧
      (∀ p ∈ s.tim.programmes, p.state ≠ .waiting ∧ p.state ≠ .held)) ∧
    (∀ d ∈ [36523, 36524],
      let s := { deck .halted with hold := { (deck .halted).hold with seconds := 86399, day := d } }
      s.hold.intact = true ∧ s.hold.staged = .none ∧ s.tim.run = none ∧ s.mainPower = true ∧ s.hold.day = d ∧ s.hold.valid = true ∧
      (∀ p ∈ s.tim.programmes, p.state ≠ .waiting ∧ p.state ≠ .held)) ∧
    (let s := { deck .halted with mainPower := false }
     s.mainPower = false ∧ s.agenda = [] ∧ s.hold.seconds < 86399) ∧
    (∀ g ∈ [Staged.set 36524 86399, .shift true, .shift false],
      let s := { deck .halted with hold := { (deck .halted).hold with staged := g, day := 1, seconds := 3598, periodSecond := 597 } }
      s.hold.intact = true ∧ s.mainPower = true ∧ s.tim.run = none ∧ s.tim.ext = .none ∧ s.hold.periodSecond < 598 ∧
      (∀ p ∈ s.tim.programmes, p.state ≠ .waiting ∧ p.state ≠ .held) ∧ s.hold.staged = g ∧ s.hold.power ≠ .timerStandby ∧
      s.hold.seconds < 3599 ∧ 0 < s.hold.day) ∧
    (let s := { powered .timerStandby .halted with
       hold := { (powered .timerStandby .halted).hold with staged := .set 1 1, valid := false } }
     s.hold.staged = .set 1 1 ∧ s.hold.power = .timerStandby ∧ s.hold.valid = false ∧ s.hold.seconds < 86399 ∧ s.tim.run = none) := by
  decide +kernel

/-- A deck in which the programme of slot 2 is run. -/
def runningDeck (m : Mode) (st : ProgState) (ph : RunPhase) (p : Programme) : State :=
  let h := holding m 55010 [title 1 500 50000]
  { h with
    hold := { h.hold with day := 100, seconds := 72000 }
    tun := { h.tun with owner := .timer, saved := some 101 }
    tim := { (timed { p with state := st }).tim with run := some ⟨2, ph, .clear, p.firstPlan, 0⟩ } }

/-- A SET dropped: in TIMER-STANDBY with a valid clock, and beside a programme recording, placed and being placed. -/
theorem test_meets_SecondEvents_dropped :
    (let s := { powered .timerStandby .halted with hold := { (powered .timerStandby .halted).hold with staged := .set 1 1 } }
     s.hold.intact = true ∧ s.mainPower = true ∧ s.hold.valid = true ∧ s.hold.staged = .set 1 1 ∧ s.hold.power = .timerStandby ∧
      s.hold.seconds < 86399 ∧ s.tim.run = none ∧ s.tim.ext = .none) ∧
    (∀ z ∈ [(Mode.recording, ProgState.recording, RunPhase.recording, 72000), (.recPause, .preroll, .placed, 71000),
        (.threading, .preroll, .placing, 72000)],
      let h := runningDeck z.1 z.2.1 z.2.2.1 (programme .waiting)
      let s := { h with
        hold := { h.hold with staged := .set 1 1, seconds := z.2.2.2 }
        mech := { h.mech with target := if z.1 = .threading then some ⟨.recPause, .timer⟩ else none } }
      s.hold.intact = true ∧ s.mainPower = true ∧ s.hold.staged = .set 1 1 ∧ s.tim.run.map (·.phase) = some z.2.2.1 ∧
      (∀ p ∈ s.tim.programmes, p.state ≠ .waiting ∧ p.state ≠ .held) ∧ s.hold.periodSecond < 598 ∧
      s.hold.seconds < 86399 ∧ runNext s = some ⟨145200, 145260⟩ ∧
      s.hold.day * 1440 + (s.hold.seconds + 1) / 60 < 145260 ∧
      (z.1 = .recPause → s.hold.day * 1440 + (s.hold.seconds + 1) / 60 < 145200) ∧
      (z.1 = .threading → s.mech.target.isSome = true)) := by decide +kernel

/-- R148: a change of the clock that brings now to the start or the stop of a programme that waits, or a minute before them. -/
theorem test_meets_SecondEvents_examined :
    ∀ z ∈ [(Staged.set 100 71999, 5, 145199), (.set 100 72000, 5, 145200), (.set 100 75599, 5, 145259), (.set 100 75600, 5, 145260),
        (.shift true, 68398, 145199), (.shift true, 68399, 145200), (.shift true, 71999, 145260), (.shift false, 75598, 145199),
        (.shift false, 75599, 145200), (.shift false, 79199, 145260)],
      ∀ k ∈ [ProgKind.once, .daily], ∀ st ∈ [ProgState.waiting, .held],
      let p := { programme st with kind := k }
      let d := deck .play
      let s := { d with
        hold := { d.hold with day := 100, seconds := z.2.1, staged := z.1, periodSecond := 597 }, tim := (timed p).tim }
      s.hold.intact = true ∧ s.mainPower = true ∧ s.hold.power = .on ∧ s.tim.run = none ∧ s.tim.ext = .none ∧
      s.mech.mode = .play ∧ s.hold.periodSecond < 598 ∧ progAt s 2 = some p ∧ p.waits = true ∧
      (∀ k ∈ List.range 16, k ≠ 2 → progAt s k = some Programme.factory) ∧ p.next = some ⟨145200, 145260⟩ ∧
      s.hold.staged = z.1 ∧ s.hold.valid = true ∧
      (z.1 = .shift true → 100 * 1440 + (z.2.1 + 3601) / 60 = z.2.2) ∧
      (z.1 = .shift false → 3599 ≤ z.2.1 ∧ 100 * 1440 + (z.2.1 - 3599) / 60 = z.2.2) ∧
      (145260 ≤ z.2.2 → (({ p with lastDay := some 100 }).nextOccurrence 100 z.2.2).all (fun (w : Occurrence) => decide (z.2.2 < w.start)) = true) ∧
      (z.2.2 < 145200 → (p.nextOccurrence 100 z.2.2).all (fun (w : Occurrence) => decide (z.2.2 < w.start)) = true) := by decide +kernel

/-- A deck with the edit buffer open on slot 2. -/
def editing (e : Edit) (p : Programme) : State := { timed p with tim := { (timed p).tim with edit := some e } }

/-- The buffer of an evening on day 100. -/
def evening : Edit := ⟨2, true, .once, 100, 1200, 1260, 101, .std, false, 0⟩

theorem test_meets_ProgrammeRequests :
    (let s := timed (programme .waiting)
     ready s = true ∧ wiping s .programmes = false ∧ progAt s 2 = some (programme .waiting) ∧ s.hold.power ≠ .timerStandby ∧
      s.tim.edit = none ∧ progAt s 15 = some Programme.factory ∧ progAt s 0 = some Programme.factory) ∧
    (let s := editing evening (programme .waiting)
     ready s = true ∧ wiping s .programmes = false ∧ s.tim.edit = some evening ∧ isSource 102 = true) ∧
    (∀ st ∈ [ProgState.preroll, .recording, .done, .disabled, .empty, .held],
      let s := timed (programme st)
      ready s = true ∧ progAt s 2 = some (programme st) ∧ presetEmpty s 101 = false ∧
      (programme st).nextOccurrence s.hold.day s.hold.now = some ⟨145200, 145260⟩) := by decide +kernel

/-- No slot is EMPTY: one is DONE, or none is. -/
theorem test_meets_ProgrammeRequests_full :
    ∀ st ∈ [ProgState.done, .waiting],
      let s := { deck .halted with tim := { (deck .halted).tim with
        programmes := (List.replicate 16 (programme .waiting)).set 5 (programme st) } }
      ready s = true ∧ wiping s .programmes = false ∧ s.hold.power ≠ .timerStandby ∧ s.tim.edit = none ∧
      (∀ q ∈ s.tim.programmes, q.state ≠ .empty) ∧ progAt s 5 = some (programme st) ∧
      (st = .waiting → ∀ q ∈ s.tim.programmes, q.state ≠ .done) ∧
      (st = .done → ∀ k ∈ List.range 16, k ≠ 5 → (progAt s k).map (·.state) = some .waiting) := by decide +kernel

theorem test_meets_EditCommitWritesTheSlot :
    (ready (deck .halted) = true ∧ (deck .halted).tim.edit = none ∧ wiping (deck .halted) .programmes = false) ∧
    (let s := editing { evening with stop := 1200 } Programme.factory
     ready s = true ∧ s.tim.edit = some { evening with stop := 1200 }) ∧
    (let s := editing { evening with source := 99 } Programme.factory
     ready s = true ∧ s.tim.edit = some { evening with source := 99 } ∧ presetAt s 99 = some Preset.factory) ∧
    (let s := editing evening (programme .done)
     ready s = true ∧ wiping s .programmes = false ∧ s.tim.edit = some evening ∧ evening.stop ≠ evening.start ∧
      presetEmpty s 101 = false ∧ presetLocked s 101 = false ∧ evening.target = 0 ∧ evening.enable = true ∧
      progAt s 2 = some (programme .done) ∧
      (programme .waiting).nextOccurrence s.hold.day s.hold.now = some ⟨145200, 145260⟩) := by decide +kernel

/-- The other refusals of a commit, at the value where each begins, and a DISABLED, a listing and a running commit. -/
theorem test_meets_EditCommitWritesTheSlot_checks :
    (let w := wipingDeck .programmes
     ready w = true ∧ wiping w .programmes = true) ∧
    (∀ k ∈ [LockState.locked, .unlocked, .frozen],
      let e := editing { evening with source := 1 } (programme .done)
      let s := { e with
        tun := { e.tun with presets := { station with locked := true } :: List.replicate 98 Preset.factory }
        settings := { Settings.factory with lockCode := some 1234 }, lock := ⟨k, 5, none⟩ }
      ready s = true ∧ s.tim.edit = some { evening with source := 1 } ∧ presetEmpty s 1 = false ∧ presetLocked s 1 = true ∧
      s.lock.state = k ∧ progAt s 2 = some (programme .done)) ∧
    (let s := editing { evening with target := 1023 } (programme .done)
     ready s = true ∧ s.tim.edit = some { evening with target := 1023 } ∧ presetLocked s 101 = false ∧ cassetteOf s 1023 = none) ∧
    (∀ n ∈ [(75599 : Nat), 75600], ∀ b ∈ [true, false],
      let e := { evening with enable := b }
      let h := editing e (programme .waiting)
      let s := { h with
        hold := { h.hold with day := 100, seconds := n }
        tim := { h.tim with programmes := h.tim.programmes.set 9 { programme .held with next := some ⟨145259, 145261⟩ } } }
      ready s = true ∧ wiping s .programmes = false ∧ s.tim.edit = some e ∧ progAt s 2 = some (programme .waiting) ∧
      (programme .waiting).nextOccurrence s.hold.day s.hold.now = (if n = 75599 then some ⟨145200, 145260⟩ else none) ∧
      progAt s 9 = some { programme .held with next := some ⟨145259, 145261⟩ }) ∧
    (∀ st ∈ [ProgState.preroll, .recording], ∀ e ∈ [{ evening with stop := 1201 }, { evening with stop := 1202 },
        { evening with stop := 1202, date := 101 }, { evening with stop := 1202, enable := false }],
      let h := editing e (programme st)
      let s := { h with hold := { h.hold with day := 100, seconds := 72060 } }
      ready s = true ∧ s.tim.edit = some e ∧ e.stop ≠ e.start ∧ presetEmpty s 101 = false ∧ presetLocked s 101 = false ∧
      progAt s 2 = some (programme st) ∧ s.hold.now = 145201 ∧ (programme st).next = some ⟨145200, 145260⟩ ∧
      145200 + (e.stop + 1440 - 1200) % 1440 = if e.stop = 1201 then 145201 else 145202) := by decide +kernel

theorem test_meets_NextOccurrenceIsTheEarliest :
    (programme .waiting).start < 1440 ∧ (programme .waiting).stop < 1440 ∧ 100 * 1440 ≤ 145259 ∧ 145259 < (100 + 1) * 1440 ∧
    (programme .waiting).nextOccurrence 100 145259 = some ⟨145200, 145260⟩ ∧
    (programme .waiting).nextOccurrence 100 145260 = none := by decide +kernel

theorem test_meets_ProgrammeDisableRule :
    (ready (wipingDeck .programmes) = true ∧ wiping (wipingDeck .programmes) .programmes = true) ∧
    (ready (powered .timerStandby .halted) = true ∧ wiping (powered .timerStandby .halted) .programmes = false ∧
      (powered .timerStandby .halted).hold.power = .timerStandby) ∧
    (∀ st ∈ [ProgState.preroll, .recording, .empty, .waiting, .held, .done, .disabled],
      let s := timed (programme st)
      ready s = true ∧ wiping s .programmes = false ∧ s.hold.power ≠ .timerStandby ∧ progAt s 2 = some (programme st) ∧
      newSlot s = some 0 ∧ progAt s 0 = some Programme.factory) := by decide +kernel

/-- A deck in a power state, a programme waiting, with a function on line 1. -/
def armable (p : DeckPower) (f : LineFn) (m : Mode) : State :=
  let s := { powered p m with tim := (timed (programme .waiting)).tim }
  { s with settings := { Settings.factory with line1 := f } }

theorem test_meets_DeckPowerRequests :
    (∀ p ∈ [DeckPower.off, .on, .timerStandby],
      ready (armable p .timerKey .empty) = true ∧ (armable p .timerKey .empty).hold.power = p ∧
      (armable p .timerKey .empty).mech.mode = .empty ∧ (armable p .timerKey .empty).tim.run = none ∧
      (armable p .timerKey .empty).tun.scan = none ∧ (∀ q ∈ (armable p .timerKey .empty).tim.programmes, q.state ≠ .held) ∧
      (armable p .timerKey .empty).hold.valid = true ∧ (∃ q ∈ (armable p .timerKey .empty).tim.programmes, q.waits = true) ∧
      (armable p .timerKey .empty).tim.edit = none ∧ lineAssigned (armable p .timerKey .empty) .timerKey = true) ∧
    (let s := deck .ff
     ready s = true ∧ s.hold.power = .on ∧ s.mech.mode.winding = true ∧ s.mech.dewLock = false ∧ s.tim.run = none ∧
      s.tim.ext = .none ∧ (∀ p ∈ s.tim.programmes, p.state ≠ .held) ∧ s.tun.scan = none ∧ free s = true) ∧
    (ready State.reset = true ∧ State.reset.hold.valid = false ∧ State.reset.tim.run = none ∧
      (∀ p ∈ State.reset.tim.programmes, p.waits = false) ∧ lineAssigned State.reset .timerKey = false) ∧
    (let s := { armable .off .timerKey .empty with tim := { (armable .off .timerKey .empty).tim with edit := some evening } }
     ready s = true ∧ s.tim.edit.isSome = true ∧ s.hold.power ≠ .timerStandby) ∧
    (let s := { lined .timerKey .none .empty with hold := { State.reset.hold with power := .off } }
     s.mainPower = true ∧ lineAssigned s .timerKey = true ∧ s.hold.power ≠ .timerStandby ∧ s.hold.valid = false) := by
  decide +kernel

/-- POWER off and TIMER-DISARM with the tape threaded, with a HELD programme and with one recording; TIMER-ARM from ON. -/
theorem test_meets_DeckPowerRequests_off :
    ∀ pw ∈ [DeckPower.on, .timerStandby],
      (let s := powered pw .play
       ready s = true ∧ s.hold.power = pw ∧ s.tun.scan = none ∧ s.mech.dewLock = false ∧ s.tim.run = none ∧ s.tim.ext = .none ∧
        (∀ p ∈ s.tim.programmes, p.state ≠ .held) ∧ s.mech.target = none ∧ s.cue.seek = none ∧ s.mech.cause = .none ∧
        s.mech.mode.idleThreaded = true ∧ s.pins.cam = .threadPos) ∧
      (let s := { powered pw .empty with tim := (timed (programme .held)).tim }
       ready s = true ∧ s.hold.power = pw ∧ s.tun.scan = none ∧ s.mech.mode = .empty ∧ s.tim.run = none ∧
        progAt s 2 = some (programme .held) ∧ (∀ k ∈ List.range 16, k ≠ 2 → progAt s k = some Programme.factory)) ∧
      (let r := recordingDeck .recording
       let h := runningDeck .recording .recording .recording (programme .waiting)
       let s := { h with
         hold := { h.hold with power := pw }, mech := { h.mech with cause := .programme 2 }, cat := r.cat }
       ready s = true ∧ s.hold.power = pw ∧ s.tun.scan = none ∧ s.mech.mode = .recording ∧ s.pins.cam = .threadPos ∧
        s.mech.dewLock = false ∧ s.cue.seek = none ∧ s.mech.target = none ∧ s.cue.writer = .idle ∧ s.tun.owner = .timer ∧ s.tim.ext = .none ∧
        s.tim.run.map (·.phase) = some .recording ∧ s.mech.cause = .programme 2 ∧ (∀ p ∈ s.tim.programmes, p.state ≠ .held) ∧
        progAt s 2 = some (programme .recording) ∧ s.cat.recording = some ⟨55000, true, some 0, some 12⟩ ∧
        titleAt s 0 = some { title 7 55000 10 with isOpen := true }) := by decide +kernel

theorem test_meets_DeckPowerRequests_arm :
    ∀ m ∈ [Mode.empty, .ff, .play],
      let s := armable .on .none m
      ready s = true ∧ s.hold.power = .on ∧ s.hold.valid = true ∧ (∃ p ∈ s.tim.programmes, p.waits = true) ∧
      s.tim.edit = none ∧ s.tim.ext = .none ∧ s.mech.mode = m ∧ s.mech.target = none ∧ s.cue.seek = none ∧
      s.mech.cause = .none ∧ s.mech.dewLock = false ∧ (m = .play → s.pins.cam = .threadPos) := by decide +kernel

theorem test_meets_DeckPowerRequests_busy :
    let h := runningDeck .recording .recording .recording (programme .waiting)
    let s := { h with
      settings := { Settings.factory with line1 := .timerKey }
      tim := { h.tim with programmes := h.tim.programmes.set 5 (programme .waiting) } }
    ready s = true ∧ s.tim.run.isSome = true ∧ s.hold.power ≠ .timerStandby ∧ s.hold.valid = true ∧
    (∃ p ∈ s.tim.programmes, p.waits = true) ∧ s.tim.edit = none ∧ lineAssigned s .timerKey = true := by decide +kernel

theorem test_meets_FreeTransportIsEvaluated :
    (let s := { powered .timerStandby .loading with tim := { (timed (programme .held)).tim with freeDue := true } }
     s.mainPower = true ∧ s.hold.valid = true ∧ checkDue s = false ∧ s.tim.freeDue = true ∧ transportFree s = true ∧
      s.hold.power = .timerStandby ∧ s.mech.mode = .loading ∧ progAt s 2 = some (programme .held) ∧
      (programme .held).next = some ⟨145200, 145260⟩ ∧ s.hold.now < 145260 ∧ s.tun.scan = none) ∧
    (∀ k, k < 16 → k ≠ 2 → progAt (timed (programme .held)) k = some Programme.factory) ∧ Programme.factory.waits = false ∧
    (deck .halted).tim.freeDue = false := by decide +kernel

/-- Commands that take the transport from not free to free: a HALT of the wind, and the power warning that clears. -/
theorem test_meets_FreeTransportIsEvaluated_latch :
    (let s := deck .ff
     s.mainPower = true ∧ transportFree s = false ∧ transportFree (after .halt s) = true) ∧
    (let s := { deck .halted with pins := { (deck .halted).pins with powerWarning := true } }
     transportFree s = false ∧ transportFree (after .powerWarningClear s) = true) := by decide +kernel

theorem test_meets_ExternalRecording :
    (lineAssigned (deck .halted) .extRec = false ∧ checkDue (deck .halted) = false) ∧
    (∀ m ∈ [Mode.halted, .ready], ∀ n ∈ [1, 101],
      let h := holding m 55010 [title 1 500 50000]
      let s := { h with tun := (tuned station).tun, settings := { Settings.factory with line1 := .extRec, extSource := n } }
      s.mainPower = true ∧ checkDue s = false ∧ lineAssigned s .extRec = true ∧ s.tim.ext = .none ∧ transportFree s = true ∧
      free s = true ∧ s.mech.tab = true ∧ s.mech.mode = m ∧ (m = .halted → s.pins.cam = .haltPos) ∧ s.tun.owner = .view ∧
      s.tun.scan = none ∧ (tunedTo n { s.tun with owner := .timer, saved := some s.tun.source } s).isSome = true ∧
      s.cue.writer = .idle ∧ startOn s = none ∧ s.cue.identity.tag = some 12 ∧ (titlesOf s 12).length < 63 ∧
      (cassetteOf s 12).isSome = true ∧ limitFrom s 12 ((position s).getD 0) = none ∧ freeRecord s.cat = some 1) ∧
    (let h := deck .ready
     let s := { h with settings := { Settings.factory with line2 := .extRec } }
     transportFree { s with mech := { s.mech with target := some ⟨.halted, .host⟩ } } = false ∧
     ∀ u ∈ [{ s with pins := { s.pins with powerWarning := true } }, { s with mech := { s.mech with mode := .play } },
        { s with hold := { s.hold with power := .off } }, { s with mech := { s.mech with target := some ⟨.halted, .host⟩ } },
        { s with mech := { s.mech with dewLock := true } }, { s with mech := { s.mech with tab := false } }],
      u.mainPower = true ∧ checkDue u = false ∧ lineAssigned u .extRec = true ∧ u.tim.ext = .none ∧ u.tim.run = none) ∧
    (lineAssigned extStarting .extRec = true ∧ extStarting.mainPower = true ∧ checkDue extStarting = false) ∧
    (lineAssigned extRecording .extRec = true ∧ extRecording.mainPower = true ∧ checkDue extRecording = false) := by decide +kernel

/-- A deck in which the programme of slot 2 is being recorded. -/
def runningRecording : State :=
  let h := runningDeck .recording .recording .recording (programme .waiting)
  { h with mech := { h.mech with cause := .programme 2 } }

/-- R157: the programme and its title are marked before the programmes in HELD, and the tape leaves for HALTED. -/
theorem test_off_order :
    let s := { runningRecording with
      cat := (recordingDeck .recording).cat
      tim := { runningRecording.tim with programmes := runningRecording.tim.programmes.set 5 (programme .held) } }
    let t := after (.power (.of false)) s
    (t.store.flight.map (·.copy.id)).toList ++ t.store.queue = [.programme 2, .title 0, .programme 5] ∧
    t.mech.mode = .unthreading := by decide +kernel

/-- R157, R10: with the dew lock set a pending EJECT is SUPERSEDED all the same. -/
theorem test_off_supersedes_eject :
    let s := { deck .unthreading with mech := { (deck .unthreading).mech with dewLock := true, target := some ⟨.empty, .host⟩ } }
    (after (.power (.of false)) s).mech.outcome = .superseded ∧ (after (.power (.of false)) s).mech.target = none := by decide +kernel

/-- R187, R98: a title that opens past its limit is current before it closes, so the mark hold is seen. -/
theorem test_title_opened_past_its_limit :
    let h := holding .ready 55000 [{ title 1 55050 5000 with isProtected := true }]
    let t := after .record { h with lock := { h.lock with hold := some ⟨12, 1, false⟩ } }
    t.mech.mode = .ready ∧ t.mech.outcome = .protectLimit ∧ t.cat.current = none ∧ t.lock.hold = some ⟨12, 1, true⟩ := by
  decide +kernel

theorem test_meets_RunKept : RunOk runningRecording ∧ ∃ t, step runningRecording = .next t :=
  ⟨runOk_meets (by decide +kernel), _, rfl⟩

/-- The lead and the fit at the ends of their cases. -/
theorem test_meets_ProgrammesRun_lead :
    (∀ p ∈ [(44998 : Int), 49000, 52000], let s := holding .ready p [title 1 500 50000]
      s.cue.identity.tag = some 12 ∧ anchoredP s = some p ∧ 60 * fr s = 1500 ∧
      (endTarget s 12 - p).natAbs = (50600 - p).natAbs) ∧
    ((99 : Int) < 4 * 25 ∧ (4 * 25 : Int) ≤ 100 ∧ (3600 : Int) ≤ 180000 / 25 - 3600 ∧ (179999 / 25 - 3600 : Int) < 3600 ∧
      (90000 / 25 - 3600 : Int) ≤ 0 ∧ (0 : Int) < 90025 / 25 - 3600 ∧ (90025 / 25 - 3600 : Int) < 3600) ∧
    (∀ p ∈ [(60000 : Int), 60001],
      let s := holding .ready p [title 1 500 50000, { title 2 60000 10 with isProtected := true }]
      s.cue.identity.tag = some 12 ∧ anchoredP s = some p ∧
      ((titlesOf s 12).map (·.2)).filter (fun x => x.anchored && x.isProtected && decide (p ≤ x.start)) =
        if p = 60000 then [{ title 2 60000 10 with isProtected := true }] else []) ∧
    ({ programme .recording with kind := .daily, lastDay := some 100 }).nextOccurrence 100 145260 = some ⟨146640, 146700⟩ ∧
    ({ programme .recording with kind := .daily, lastDay := some 36524 }).nextOccurrence 100 145260 = none := by decide +kernel

/-- A programme waiting for its start at minute 145,200 or held, at a second event before its preroll point, at it, and at its
start; and the checks of R168. -/
theorem test_meets_ProgrammesRun_prepared :
    (∀ z ∈ [(ProgState.waiting, 71986, Mode.halted), (.waiting, 71987, .halted), (.held, 72000, .halted), (.waiting, 71995, .ready),
        (.waiting, 72000, .play), (.waiting, 71000, .play), (.waiting, 71999, .empty)],
      ∀ pw ∈ [DeckPower.on, .timerStandby, .off],
      let p := programme z.1
      let h := holding z.2.2 55010 [title 1 500 50000]
      let s := { h with hold := { h.hold with power := pw, day := 100, seconds := z.2.1 }, tim := (timed p).tim }
      s.hold.intact = true ∧ s.mainPower = true ∧ s.hold.valid = true ∧ s.hold.staged = .none ∧ s.tim.run = none ∧
      s.hold.seconds < 86399 ∧ s.hold.periodSecond < 598 ∧ s.tun.scan = none ∧ progAt s 2 = some p ∧ p.kind = .once ∧
      p.next = some ⟨145200, 145260⟩ ∧ (∀ k ∈ List.range 16, k ≠ 2 → progAt s k = some Programme.factory) ∧
      (s.mech.mode ≠ .empty → prerollCheck p s = none) ∧ p.afterLast = false ∧ free s = (pw == .on) ∧
      s.mech.target = none ∧ s.cue.seek = none ∧ s.mech.cause = .none ∧
      transportFree s = (pw != .on || z.2.2 != .play) ∧ (z.2.2 = .empty → prerollCheck p s = some .noCassette) ∧
      runOk s = true) ∧
    prerollLead (programme .waiting) (deck .halted) = 12 ∧ prerollLead (programme .waiting) (deck .ready) = 4 ∧
    (loaded (deck .halted) = true ∧ (deck .halted).cue.identity.tag ≠ some 7 ∧ (deck .fault).mech.mode = .fault ∧
      (deck .halted).mech.dewLock = false ∧ (deck .halted).mech.tab = true) := by decide +kernel

/-- A placed programme at the second event of its start, after it and before it; and one being placed. -/
theorem test_meets_ProgrammesRun_starts :
    ∀ z ∈ [(Mode.recPause, RunPhase.placed, 71999), (.recPause, .placed, 72060), (.recPause, .placed, 71000),
        (.threading, .placing, 71999), (.threading, .placing, 72000)],
      let h := runningDeck z.1 .preroll z.2.1 (programme .waiting)
      let s := { h with
        hold := { h.hold with seconds := z.2.2 }
        mech := { h.mech with drumLock := true, target := if z.1 = .threading then some ⟨.recPause, .timer⟩ else none } }
      s.mainPower = true ∧ s.hold.valid = true ∧ s.tim.run.map (·.phase) = some z.2.1 ∧
      s.tim.run.map (·.flags) = some ⟨false, false, false⟩ ∧ progAt s 2 = some (programme .preroll) ∧
      (programme .preroll).speed = .std ∧ (programme .preroll).next = some ⟨145200, 145260⟩ ∧ s.cue.seek = none ∧
      s.mech.cause = .none ∧ s.cue.writer = .idle ∧ s.tun.owner = .timer ∧ s.tun.scan = none ∧ startOn s = none ∧
      s.cue.identity.tag = some 12 ∧ cassetteOf s 12 = some (cassette 1) ∧ (titlesOf s 12).length < 63 ∧
      limitFrom s 12 ((position s).getD 0) = none ∧ freeRecord s.cat = some 1 ∧ s.mech.mode = z.1 ∧
      s.hold.intact = true ∧ s.hold.staged = .none ∧ s.hold.seconds < 86399 ∧ (∀ q ∈ s.tim.programmes, q.waits = false) ∧
      s.hold.day * 1440 + (s.hold.seconds + 1) / 60 < 145260 ∧ (z.1 = .recPause → s.mech.target = none) ∧
      runOk s = true := by decide +kernel

/-- A placed programme with a SHIFT staged, and of speed FIT with each result of the fit, at its start and at its stop. -/
theorem test_meets_ProgrammesRun_fits :
    (∀ z ∈ [(Staged.shift true, 68398, 145199), (.shift true, 68399, 145200), (.shift true, 71999, 145260),
        (.shift false, 75598, 145199), (.shift false, 75599, 145200), (.none, 75599, 145260)],
      let h := runningDeck .recPause .preroll .placed (programme .waiting)
      let s := { h with hold := { h.hold with staged := z.1, seconds := z.2.1 } }
      s.hold.staged = z.1 ∧ NextNow s z.2.2 ∧ s.tim.ext = .none ∧ runOk s = true) ∧
    (∀ z ∈ [(none, some (Plan.fitPending, Speed.std)), (some 199, none), (some 200, some (.decided, .long)),
        (some 90125, some (.switchAt 50, .std)), (some 180100, some (.decided, .std))],
      let h := runningDeck .recPause .preroll .placed { programme .waiting with speed := .fit }
      let s := { h with pos := { h.pos with pair := z.1.map fun r => ⟨r, 55010⟩ } }
      planOf .fit (fitAt ⟨145200, 145260⟩ 145200 (remaining s) s) = z.2 ∧ limitFrom s 12 ((position s).getD 0) = none ∧
      s.tim.run = some ⟨2, .placed, ⟨false, false, false⟩, .fitPending, 0⟩ ∧ startOn s = none ∧ freeRecord s.cat = some 1 ∧
      runOk s = true) := by
  decide +kernel

/-- A programme recording at the second event of its stop, with nothing after it and with a HELD programme to hand over to. -/
theorem test_meets_ProgrammesRun_ends :
    ∀ pw ∈ [DeckPower.on, .timerStandby], ∀ q ∈ [Programme.factory, { programme .held with next := some ⟨145230, 145300⟩ }],
      let r := recordingDeck .recording
      let h := runningDeck .recording .recording .recording (programme .waiting)
      let s := { h with
        hold := { h.hold with power := pw, seconds := 75599 }, mech := { h.mech with cause := .programme 2 }, cat := r.cat
        tim := { h.tim with programmes := h.tim.programmes.set 5 q } }
      s.mainPower = true ∧ s.hold.intact = true ∧ s.hold.valid = true ∧ s.hold.staged = .none ∧ s.hold.seconds < 86399 ∧
      s.mech.mode = .recording ∧ s.cue.writer = .idle ∧ s.cue.seek = none ∧ s.mech.target = none ∧ s.tun.owner = .timer ∧
      s.tim.run.map (·.phase) = some .recording ∧ s.mech.cause = .programme 2 ∧ progAt s 2 = some (programme .recording) ∧
      (programme .recording).kind = .once ∧ (programme .recording).next = some ⟨145200, 145260⟩ ∧
      s.cat.recording = some ⟨55000, true, some 0, some 12⟩ ∧ titleAt s 0 = some { title 7 55000 10 with isOpen := true } ∧
      145260 ≤ s.hold.day * 1440 + (s.hold.seconds + 1) / 60 ∧ s.hold.day * 1440 + (s.hold.seconds + 1) / 60 < 145300 ∧
      (q = Programme.factory → ∀ k ∈ s.tim.programmes, k.waits = false) ∧ s.pins.cam = .threadPos ∧ s.mech.dewLock = false ∧
      s.tim.ext = .none ∧ progAt s 5 = some q ∧
      (∀ k ∈ List.range 16, k ≠ 5 → (progAt s k).any (fun x => !x.waits) = true) ∧ startOn s = none ∧
      s.cue.identity.tag = some 12 ∧ (cassetteOf s 12).isSome = true ∧ (titlesOf s 12).length < 63 ∧
      limitFrom s 12 ((position s).getD 0) = none ∧ freeRecord s.cat = some 1 ∧ runOk s = true ∧ NextNow s 145260 := by
  decide +kernel

/-- A deck in which the programme of slot 2 is recorded into title 0, with a plan, a count and a supply result. -/
def fitting (plan : Plan) (count steps : Nat) : State :=
  let h := runningDeck .recording .recording .recording { programme .waiting with speed := .fit }
  { h with
    mech := { h.mech with cause := .programme 2, forward := true }
    pos := { h.pos with supply := some ⟨63, steps⟩ }
    cat := (recordingDeck .recording).cat
    tim := { h.tim with run := some ⟨2, .recording, ⟨false, false, false⟩, plan, count⟩ } }

/-- A recording before its stop with a SHIFT staged; HELD programmes that a handover fails for another cassette and for want of
tape; and one of speed FIT. -/
theorem test_meets_ProgrammesRun_runs :
    (∀ z ∈ [(Staged.none, 75598, 145259), (.shift true, 71998, 145259), (.shift true, 71999, 145260), (.shift false, 79198, 145259),
        (.shift false, 79199, 145260)],
      let h := fitting .decided 0 3600
      let s := { h with hold := { h.hold with staged := z.1, seconds := z.2.1 } }
      NextNow s z.2.2 ∧ runOk s = true ∧ s.tun.owner = .timer ∧ s.mech.cause = .programme 2 ∧ s.tim.ext = .none) := by decide +kernel

theorem test_meets_ProgrammesRun_handover :
    (∀ z ∈ [((40 : Nat), (none : Option Int), (0 : Nat)), (12, some 199, 1), (0, some 200, 2), (12, none, 2)],
      let q := { programme .held with speed := .fit, target := z.1, next := some ⟨145230, 145300⟩ }
      let h := fitting .decided 0 3600
      let s := { h with
        hold := { h.hold with seconds := 75599 }
        pos := { h.pos with pair := z.2.1.map fun r => ⟨r, 55010⟩ }
        tim := { h.tim with programmes := h.tim.programmes.set 5 q } }
      NextNow s 145260 ∧ s.hold.staged = .none ∧ runOk s = true ∧ progAt s 5 = some q ∧ q.state = .held ∧ q.kind = .once ∧
      (∀ k ∈ List.range 16, k ≠ 5 → (progAt s k).any (fun x => !x.waits) = true) ∧ q.next = some ⟨145230, 145300⟩ ∧
      s.cue.identity.tag = some 12 ∧ (z.2.2 = 0 → q.target ≠ 0 ∧ s.cue.identity.tag ≠ some q.target) ∧
      (0 < z.2.2 → q.target = 0 ∨ s.cue.identity.tag = some q.target) ∧
      (z.2.2 = 1 → planOf .fit (fitAt ⟨145230, 145300⟩ 145260 (remaining s) s) = none) ∧
      (z.2.2 = 2 → (planOf .fit (fitAt ⟨145230, 145300⟩ 145260 (remaining s) s)).isSome = true ∧ startOn s = none ∧
        (cassetteOf s 12).isSome = true ∧ limitFrom s 12 ((position s).getD 0) = none ∧ freeRecord s.cat = some 1)) := by
  decide +kernel

/-- R172: each result of the fit that a supply measurement can bring, a plan that stands, and counts about that of the switch. -/
theorem test_meets_ProgrammesRun_decided :
    (∀ z ∈ [(1000, Fit.tooShort), (1399, .tooShort), (1400, .long), (2300, .switchAt 14000), (2900, .std), (20000, .std)],
      let s := fitting .fitPending 10 z.1
      s.mainPower = true ∧ s.mech.mode = .recording ∧ s.cue.seek = none ∧ progAt s 2 = some { programme .recording with speed := .fit } ∧
      s.cat.recording = some ⟨55000, true, some 0, some 12⟩ ∧ titleAt s 0 = some { title 7 55000 10 with isOpen := true } ∧
      s.pos.place = some ⟨55010, .exact⟩ ∧ s.pos.supply = some ⟨63, z.1⟩ ∧
      fitAt ⟨145200, 145260⟩ s.hold.now (some (remainingOf (reelInForce s) z.1)) s = z.2) ∧
    (∀ n ∈ [(11 : Nat), 12],
      let s := fitting (.switchAt n) 10 3600
      s.mainPower = true ∧ s.mech.mode = .recording ∧ s.mech.forward = true ∧ s.cue.seek = none ∧ s.pos.memoryStop = false ∧
      s.cue.writer = .idle ∧ cassetteOf s 12 = some (cassette 1) ∧ (cassette 1).titles = [0] ∧ (cassette 1).dead = [] ∧
      s.cue.identity.tag = some 12 ∧ s.tim.run = some ⟨2, .recording, ⟨false, false, false⟩, .switchAt n, 10⟩) := by decide +kernel

theorem test_meets_UnlockRule :
    (∀ k ∈ [LockState.none, .locked, .unlocked, .frozen], ∀ n ∈ [1, 2],
      let s := lockedDeck k n
      ready s = true ∧ s.hold.power ≠ .timerStandby ∧ s.lock.state = k ∧ s.lock.attempts = n ∧
      (k ≠ .none → s.settings.lockCode = some 1234 ∧ s.settings.lockCode ≠ some 9999)) ∧
    ready (powered .timerStandby .halted) = true ∧ (powered .timerStandby .halted).hold.power = .timerStandby := by
  decide +kernel

theorem test_meets_RelockRule :
    ∀ k ∈ [LockState.none, .locked, .unlocked, .frozen], ready (lockedDeck k 5) = true ∧ (lockedDeck k 5).lock.state = k := by
  decide +kernel

theorem test_meets_CodeSetRule :
    (∀ k ∈ [LockState.none, .locked, .unlocked, .frozen], ∀ n ∈ [1, 2],
      let s := lockedDeck k n
      ready s = true ∧ s.hold.power ≠ .timerStandby ∧ wiping s .presets = false ∧ wiping s .catalogue = false ∧
      s.lock.state = k ∧ s.lock.attempts = n ∧ s.tun.presets.length = 99 ∧ s.cat.pool.length = 256 ∧
      (k ≠ .none → s.settings.lockCode = some 1234 ∧ s.settings.lockCode ≠ some 9999)) ∧
    (ready (powered .timerStandby .halted) = true ∧ (powered .timerStandby .halted).hold.power = .timerStandby) ∧
    (ready (wipingDeck .catalogue) = true ∧ (wipingDeck .catalogue).hold.power ≠ .timerStandby ∧
      wiping (wipingDeck .catalogue) .catalogue = true) := by decide +kernel

theorem test_meets_LockFlagsAndMute :
    (∀ k ∈ [LockState.none, .locked, .unlocked, .frozen],
      let h := holding .play 0 [{ title 63 0 5000 with locked := true }]
      let s := { h with tun := (tuned station).tun, lock := ⟨k, 5, some ⟨12, 63, false⟩⟩, cat := { h.cat with current := some 0 } }
      ready s = true ∧ wiping s .presets = false ∧ wiping s .catalogue = false ∧ s.hold.power ≠ .timerStandby ∧
      presetAt s 1 = some station ∧ presetAt s 99 = some Preset.factory ∧ s.lock.state = k ∧
      titleBySlot s 12 63 = some (0, { title 63 0 5000 with locked := true }) ∧ titleBySlot s 12 1 = none ∧
      s.mech.mode.tapeShown = true ∧ s.cat.current = some 0 ∧ titleAt s 0 = some { title 63 0 5000 with locked := true }) ∧
    (deck .play).mech.mode.tapeShown = true ∧ (deck .play).cat.current = none ∧ (deck .play).lock.hold = none ∧
    (deck .halted).mech.mode.tapeShown = false ∧ (deck .halted).lock.state ≠ .unlocked := by decide +kernel

theorem test_meets_WipeRequests :
    (ready (deck .halted) = true ∧ (deck .halted).store.isPrepared = false) ∧
    (let s := { deck .halted with store := { (deck .halted).store with isPrepared := true } }
     ready s = true ∧ s.store.isPrepared = true ∧ s.settings.lockCode = none ∧ s.hold.power ≠ .timerStandby ∧
      s.store.wipe = none ∧ s.tim.run = none ∧ s.cat.recording = none ∧ s.tun.owner = .view ∧ s.tun.scan = none ∧
      s.cue.seek = none ∧ (∀ p ∈ s.tim.programmes, p.state = .empty ∨ isPreset p.source = false) ∧
      isPreset s.settings.extSource = false) := by decide +kernel

/-- A deck about to be wiped. -/
def prepared (s : State) : State := { s with store := { s.store with isPrepared := true } }

/-- Each later check of WIPE where it is the first that holds. -/
theorem test_meets_WipeRequests_checks :
    (∀ k ∈ [LockState.locked, .frozen], let s := prepared (lockedDeck k 5)
      ready s = true ∧ s.store.isPrepared = true ∧ s.settings.lockCode.isSome = true ∧ s.lock.state = k) ∧
    (let s := prepared (powered .timerStandby .halted)
     ready s = true ∧ s.settings.lockCode = none ∧ s.hold.power = .timerStandby) ∧
    (let s := prepared (wipingDeck .all)
     ready s = true ∧ s.settings.lockCode = none ∧ s.hold.power ≠ .timerStandby ∧ s.store.wipe.isSome = true) ∧
    (let s := prepared (runningDeck .recording .recording .recording (programme .waiting))
     ready s = true ∧ s.settings.lockCode = none ∧ s.hold.power ≠ .timerStandby ∧ s.store.wipe = none ∧ s.tim.run.isSome = true) ∧
    (let s := prepared (recordingDeck .recording)
     ready s = true ∧ s.store.wipe = none ∧ s.tim.run = none ∧ s.cat.recording.isSome = true) ∧
    (∀ n ∈ [1, 99],
      let d := deck .halted
      (let s := prepared { d with tun := { d.tun with owner := .record, source := n } }
       ready s = true ∧ s.settings.lockCode = none ∧ s.store.wipe = none ∧ s.tim.run = none ∧ s.cat.recording = none ∧
        s.tun.owner = .record ∧ s.tun.source = n) ∧
      (let s := prepared (timed { programme .disabled with source := n })
       ready s = true ∧ s.settings.lockCode = none ∧ s.store.wipe = none ∧ s.tun.owner = .view ∧
        progAt s 2 = some { programme .disabled with source := n }) ∧
      (let s := prepared { d with settings := { Settings.factory with extSource := n } }
       ready s = true ∧ s.settings.lockCode = none ∧ s.tun.owner = .view ∧ s.settings.extSource = n)) := by decide +kernel

/-- A deck with the write of SETTINGS in flight, started after a wipe was accepted. -/
def writing (queue left : List RecordId) : State :=
  { deck .halted with store := { (deck .halted).store with
    queue := queue, flight := some ⟨.settings .factory, true⟩, wipe := some ⟨.all, left⟩ } }

theorem test_meets_WritesComplete :
    (State.reset.mainPower = true ∧ checkDue State.reset = false ∧ State.reset.store.flight = none ∧ State.reset.store.queue = []) ∧
    (let s := { writing [.preset 99] [] with store := { (writing [.preset 99] []).store with wipe := none } }
     s.mainPower = true ∧ checkDue s = false ∧ s.store.flight = some ⟨.settings .factory, true⟩ ∧ s.store.wipe = none ∧
      s.store.queue = [.preset 99]) ∧
    (let s := writing [] [.settings]
     s.mainPower = true ∧ checkDue s = false ∧ s.store.flight = some ⟨.settings .factory, true⟩ ∧
      s.store.wipe = some ⟨.all, [.settings]⟩ ∧ (RecordCopy.settings .factory).id = .settings) ∧
    (let s := writing [] [.settings, .preset 1]
     s.store.wipe = some ⟨.all, [.settings, .preset 1]⟩ ∧ RecordId.preset 1 ∈ [RecordId.settings, .preset 1] ∧
      RecordId.preset 1 ≠ (RecordCopy.settings .factory).id) := by decide +kernel

theorem test_meets_MotionsComplete_loading :
    (State.reset.mainPower = true ∧ checkDue State.reset = false ∧ State.reset.mech.mode = .empty ∧
      State.reset.pins.powerWarning = false) ∧
    (let s := after .cassetteIn State.reset
     s.mainPower = true ∧ s.tim.run = none ∧ s.mech.cause = .none ∧ s.mech.mode = .loading ∧ s.mech.target = none ∧
      s.cue.seek = none ∧ s.pos.place = none) ∧
    ((deck .loading).mainPower = true ∧ (deck .loading).mech.mode = .loading ∧ (deck .loading).pos.place.isSome = true ∧
      (deck .loading).mech.target = none ∧ (deck .loading).cue.seek = none) ∧
    (let s := { deck .loading with mech := { (deck .loading).mech with target := some ⟨.halted, .host⟩ } }
     s.mech.mode = .loading ∧ s.mech.target = some ⟨.halted, .host⟩ ∧ s.mech.cause = .none ∧ s.tim.run = none) ∧
    (let s := { deck .empty with pins := { (deck .empty).pins with powerWarning := true } }
     s.mainPower = true ∧ checkDue s = false ∧ s.mech.mode = .empty ∧ s.pins.powerWarning = true) ∧
    ((deck .play).mainPower = true ∧ (deck .play).tim.run = none ∧ (deck .play).mech.cause = .none ∧
      (deck .play).mech.mode ≠ .loading ∧ (deck .play).mech.mode ≠ .empty ∧ (deck .play).mech.target = none) := by decide +kernel

/-- A deck in a motion with a target of the host's, the drum locked or not. -/
def moving (m target : Mode) (locked : Bool) : State :=
  { deck m with mech := { (deck m).mech with target := some ⟨target, .host⟩, drumLock := locked } }

theorem test_meets_MotionsComplete :
    (∀ b ∈ [true, false], let s := moving .threading .play b
      s.mainPower = true ∧ s.tim.run = none ∧ s.mech.mode = .threading ∧ s.mech.drumLock = b ∧ s.mech.cause = .none ∧
      s.mech.target.map (·.mode) ≠ some .threading) ∧
    (let s := { deck .threading with mech := { (deck .threading).mech with drumLock := true } }
     s.mech.mode = .threading ∧ s.mech.drumLock = true ∧ s.mech.target = none ∧ s.tim.run = none) ∧
    (let s := { moving .threading .ready false with pins := { (deck .threading).pins with cam := .threadPos } }
     s.mech.mode = .threading ∧ s.pins.cam = .threadPos ∧ s.mech.target = some ⟨.ready, .host⟩ ∧ s.mech.cause = .none) ∧
    ((deck .unthreading).mainPower = true ∧ (deck .unthreading).tim.run = none ∧ (deck .unthreading).mech.mode = .unthreading ∧
      (deck .unthreading).mech.cause = .none ∧ (deck .unthreading).mech.target = none) ∧
    (moving .unthreading .halted true).mech.target = some ⟨.halted, .host⟩ ∧
    (moving .unthreading .empty true).mech.target = some ⟨.empty, .host⟩ ∧
    ((moving .ejecting .empty false).mainPower = true ∧ checkDue (moving .ejecting .empty false) = false ∧
      (moving .ejecting .empty false).mech.mode = .ejecting ∧
      (moving .ejecting .empty false).mech.target = some ⟨.empty, .host⟩ ∧ (deck .ejecting).mech.target = none ∧
      (deck .ejecting).mech.mode = .ejecting ∧ (deck .play).mech.mode ≠ .ejecting) := by decide +kernel

theorem test_meets_MechanismFaults :
    (∀ m ∈ [Mode.threading, .unthreading, .ejecting, .play, .halted],
      (deck m).mainPower = true ∧ (deck m).tim.run = none ∧ free (deck m) = true ∧ (deck m).mech.mode = m ∧
      (deck m).mech.drumLock = false ∧ (deck m).pins.carriageDown = true) ∧
    (deck .threading).pins.cam ≠ .threadPos ∧ (deck .play).pins.cam = .threadPos ∧ (deck .play).mech.mode.threaded = true ∧
    (deck .halted).pins.cam = .haltPos ∧ (deck .halted).mech.mode.unthreaded = true := by decide +kernel

/-- An EJECT taken in FAULT is under way, its target pending. -/
theorem test_meets_MechanismFaults_eject :
    ∀ m ∈ [Mode.unthreading, .ejecting], ∀ b ∈ [true, false],
      let s := aiming (some ⟨.empty, .host⟩) { deck m with mech := { (deck m).mech with faultEject := b } }
      s.mainPower = true ∧ s.tim.run = none ∧ s.cue.seek = none ∧ s.mech.cause = .none ∧
      s.mech.target = some ⟨.empty, .host⟩ ∧ s.mech.mode = m ∧ s.mech.faultEject = b ∧ s.mech.stuck = false := by
  decide +kernel

theorem test_meets_TapeIsStopped :
    (∀ m ∈ [Mode.halted, .ff], (deck m).mainPower = true ∧ (deck m).tim.run = none ∧ free (deck m) = true ∧ (deck m).mech.mode = m) ∧
    ({ deck .halted with mech := { (deck .halted).mech with dewWait := some 120000 } }).mech.dewWait.isSome = true ∧
    (deck .halted).mech.dewWait = none ∧
    (deck .play).pins.cam = .threadPos ∧
    (∀ m ∈ [Mode.ff, .rew, .searchRev, .searchFwd, .play], ∀ auto ∈ [true, false], ∀ ends ∈ [true, false],
      let s := { deck m with
        mech := { (deck m).mech with reelWatch := some 500 }
        pins := { (deck m).pins with bot := if m.reverse then ends else !ends, eot := if m.reverse then !ends else ends }
        settings := { Settings.factory with autoRewind := auto } }
      s.mainPower = true ∧ s.tim.run = none ∧ free s = true ∧ s.mech.reelWatch.isSome = true ∧ s.mech.mode = m ∧
      s.mech.mode.tapeMoving = true ∧ (if m.reverse then s.pins.bot else s.pins.eot) = ends ∧ s.settings.autoRewind = auto) := by decide +kernel

theorem test_meets_TapeIsStopped_recording :
    (∀ ends ∈ [true, false],
      let r := recordingDeck .recording
      let s := { r with
        mech := { r.mech with reelWatch := some 4000 }
        pins := { r.pins with bot := !ends, eot := ends } }
      s.mainPower = true ∧ s.tim.run = none ∧ s.mech.target = none ∧ s.cue.seek = none ∧ s.mech.reelWatch.isSome = true ∧
      s.mech.mode = .recording ∧ s.mech.cause = .manual ∧ s.cue.writer = .idle ∧ s.pins.eot = ends ∧
      s.cat.recording = some ⟨55000, true, some 0, some 12⟩ ∧ titleAt s 0 = some { title 7 55000 10 with isOpen := true }) := by
  decide +kernel

theorem test_meets_TapeIsStopped_idle :
    (∀ m ∈ [Mode.still, .ready],
      let s := { deck m with mech := { (deck m).mech with stillTimer := some 300000, readyTimer := some 480000 } }
      s.mainPower = true ∧ s.tim.run = none ∧ s.mech.target = none ∧ s.cue.seek = none ∧ s.mech.mode = m ∧
      s.mech.stillTimer.isSome = true ∧ s.mech.readyTimer.isSome = true ∧ s.pins.cam = .threadPos ∧ s.mech.cause = .none) ∧
    (let r := recordingDeck .recPause
     let s := { r with mech := { r.mech with recPauseTimer := some 300000 } }
     s.mech.mode = .recPause ∧ s.mech.recPauseTimer.isSome = true ∧ s.mech.cause = .manual ∧ s.cue.writer = .idle ∧
      s.tun.owner = .record ∧ s.cat.recording = some ⟨55000, true, some 0, some 12⟩ ∧
      titleAt s 0 = some { title 7 55000 10 with isOpen := true } ∧ s.tim.run = none ∧ s.mech.target = none ∧ s.cue.seek = none ∧
      (deck .halted).mech.stillTimer = none ∧ (deck .halted).mech.recPauseTimer = none ∧
      (deck .halted).mech.readyTimer = none) := by decide +kernel

theorem test_meets_ReelsAreCounted :
    (∀ m ∈ [Mode.play, .searchFwd, .searchRev, .ff, .rew],
      let s := { deck m with pos := { (deck m).pos with
        takeUp := some ⟨62, 1000⟩, supply := some ⟨62, 20000⟩, wind := some ⟨71680, 0, 6, Config.reel .s625 .b⟩ } }
      s.mainPower = true ∧ checkDue s = false ∧ s.mech.mode = m ∧ s.tim.run = none ∧ s.cue.seek = none ∧
      s.pos.memoryStop = false ∧ s.pos.place = some ⟨1000, .exact⟩ ∧ s.cue.identity = .none ∧
      s.mech.mode.measuring = !s.mech.mode.winding) ∧
    (Mode.halted.winding = false ∧ Mode.ff.winding = true ∧ Mode.rew.winding = true ∧
      anchoredP (holding .halted 90000 []) = some 90000 ∧ (holding .halted 90000 []).cue.identity.tag = some 12 ∧
      cassetteOf (holding .halted 90000 []) 12 = some (cassette 0) ∧
      ∀ t ∈ [none, some 1000], let s := { deck .halted with pos := { (deck .halted).pos with
          place := some ⟨0, .unanchored⟩, takeUpLast := t } }
        anchoredP s = none ∧ s.pos.takeUpLast = t) ∧
    (deck .play).pos.takeUp = none ∧ (deck .searchFwd).pos.takeUp = none ∧ (deck .play).pos.supply = none ∧ (deck .halted).mech.mode.tapeMoving = false ∧
    (deck .halted).mech.mode.winding = false ∧
    (∀ n ∈ [999, 20001], let s := { deck .play with pos := { (deck .play).pos with takeUp := some ⟨63, n⟩, supply := some ⟨63, n⟩ } }
      s.mainPower = true ∧ s.mech.mode.measuring = true ∧ (n < 1000 ∨ 20000 < n)) := by decide +kernel

theorem test_meets_TapeIsStopped_pulses :
    (∀ n ∈ [6, 7], let s := { deck .play with mech := { (deck .play).mech with drumCount := n, ctlTimer := some 3000, unmeasured := true } }
      s.mainPower = true ∧ checkDue s = false ∧ s.mech.target = none ∧ s.mech.mode.drumOn = true ∧ s.mech.mode.threaded = true ∧
      99 * 1000000000 ≤ 39600000 * fr s * 100 ∧ 40400000 * fr s * 100 ≤ 101 * 1000000000 ∧
      39599999 * fr s * 100 < 99 * 1000000000 ∧ 101 * 1000000000 < 40400001 * fr s * 100 ∧ s.mech.drumCount = n ∧
      s.mech.ctlTimer.isSome = true ∧ s.mech.unmeasured = true) ∧
    (deck .halted).mech.mode.drumOn = false ∧ (deck .halted).mech.mode ≠ .play ∧ (deck .halted).mech.ctlTimer = none ∧
    (deck .halted).mech.mode.reading = false ∧ 45 * 40000000 ≤ 18000000 * 100 ∧ 17999999 * 100 < 45 * 40000000 ∧
    ({ deck .play with cue := { Cue.initial with reader := .hunting 8 } }).cue.reader = .hunting 8 ∧
    (deck .searchFwd).cue.reader = .waiting ∧ (deck .searchRev).mech.mode = .searchRev := by decide +kernel

/-- Control-track pulses within the window and outside, at and before the eighth; and the reader before and after its lead. -/
theorem test_meets_TapeIsStopped_counts :
    (∀ n ∈ [6, 7], ∀ b ∈ [true, false],
      let s := { deck .play with mech := { (deck .play).mech with unmeasured := false, inWindow := n, outWindow := n, capstanLock := b } }
      s.mainPower = true ∧ checkDue s = false ∧ s.mech.mode = .play ∧ 45 * 40000000 ≤ 24000000 * 100 ∧ s.cue.reader = .waiting ∧
      s.mech.unmeasured = false ∧ 98 * 1000000000 ≤ 39200000 * fr s * 100 ∧ 39200000 * fr s * 100 ≤ 102 * 1000000000 ∧
      39199999 * fr s * 100 < 98 * 1000000000 ∧ 102 * 1000000000 < 40800001 * fr s * 100 ∧ s.mech.inWindow = n ∧
      s.mech.outWindow = n ∧ s.mech.capstanLock = b) ∧
    (∀ r ∈ [Reader.waiting, .hunting 6, .hunting 7, .data [], .data (List.replicate 15 true)],
      let s := { deck .searchFwd with cue := { Cue.initial with reader := r } }
      s.mainPower = true ∧ checkDue s = false ∧ s.mech.mode = .searchFwd ∧ s.cue.reader = r) := by decide +kernel

/-- A memory stop about to apply and not, in REW and in SEARCH-REV; and a recording at and before its protection limit. -/
theorem test_meets_TapeIsStopped_memory :
    (∀ m ∈ [Mode.rew, .searchRev], ∀ z ∈ [(999 : Int), 1000, 720],
      let s := { deck m with pos := { (deck m).pos with
        memoryStop := true, zero := some z, wind := some ⟨71680, 0, 0, Config.reel .s625 .b⟩ } }
      s.mainPower = true ∧ s.tim.run = none ∧ s.cue.seek = none ∧ s.mech.target = none ∧ s.pos.place = some ⟨1000, .exact⟩ ∧
      s.mech.mode = m ∧ s.mech.cause = .none ∧ s.pos.wind = some ⟨71680, 0, 0, Config.reel .s625 .b⟩ ∧
      s.pos.memoryStop = true ∧ s.pos.zero = some z ∧ s.mech.forward = false) ∧
    clampP .estimated (1000 - ((max (71680 - 69) 44698 + 0) / 256 : Nat)) = 721 ∧
    (∀ b ∈ [(55111 : Int), 55112],
      let y := { title 2 b 500 with isProtected := true }
      let s := recordingOver .recording [y]
      s.mainPower = true ∧ s.tim.run = none ∧ s.cue.seek = none ∧ s.mech.target = none ∧ s.pos.place = some ⟨55010, .exact⟩ ∧
      s.mech.mode = .recording ∧ s.mech.forward = true ∧ s.mech.cause = .manual ∧ s.cue.writer = .idle ∧
      s.cat.recording = some ⟨55000, true, some 0, some 12⟩ ∧ s.cue.identity.tag = some 12 ∧
      titleAt s 0 = some { title 7 55000 10 with isOpen := true } ∧ cassetteOf s 12 = some (cassette 2) ∧
      (cassette 2).titles = [0, 1] ∧ titleAt s 1 = some y ∧ 55011 ≤ b ∧ 4 * fr s = 100) := by decide +kernel

theorem test_meets_PositionMoves :
    (∀ m ∈ [Mode.play, .searchRev], ∀ r ∈ [(4 : Int), 5, -4, -5],
      let s := { deck m with pos := { (deck m).pos with residue := r } }
      s.mainPower = true ∧ checkDue s = false ∧ s.mech.mode.threaded = true ∧ s.pos.place.isSome = true ∧
      s.mech.forward = (m == .play) ∧ s.pos.residue = r) ∧
    (deck .ff).mech.mode.threaded = false ∧ State.reset.pos.place = none ∧
    (∀ p ∈ [(0 : Int), 1048574, 1048575],
      let s := { deck .play with pos := { (deck .play).pos with place := some ⟨p, .exact⟩ }, cue := { Cue.initial with gap := 6 } }
      s.mainPower = true ∧ s.tim.run = none ∧ s.cue.seek = none ∧ s.pos.memoryStop = false ∧ s.cue.gap < 7 ∧
      s.pos.place = some ⟨p, .exact⟩ ∧ s.mech.forward = true ∧ s.mech.mode = .play) ∧
    (∀ q ∈ [(⟨0, .exact⟩ : Place), ⟨1, .estimated⟩, ⟨-1048574, .unanchored⟩],
      let s := { deck .searchRev with pos := { (deck .searchRev).pos with place := some q } }
      s.pos.place = some q ∧ s.mech.forward = false ∧ s.mech.mode = .searchRev ∧ q.p ≤ 1048576) ∧
    (let s := deck .rew
     s.mainPower = true ∧ s.tim.run = none ∧ s.pos.place = some ⟨1000, .exact⟩ ∧ s.mech.mode.tapeMoving = true ∧
      true = s.mech.mode.reverse ∧ s.mech.mode ≠ .recording ∧ s.cat.thisLoad = [] ∧ s.cat.recording = none ∧
      s.cat.cassettes = [] ∧ s.cue.seek = none ∧ s.pos.memoryStop = false) ∧
    (let s := holding .rew 1000 [title 1 0 500, title 2 600 500]
     s.mainPower = true ∧ s.tim.run = none ∧ s.pos.place = some ⟨1000, .exact⟩ ∧ s.cat.thisLoad = [] ∧ s.cat.recording = none ∧
      s.cat.cassettes.length = 1 ∧ (∀ c ∈ s.cat.cassettes, (orderTitles (titlesOf s c.tag)).map (·.1) = c.titles)) ∧ (deck .halted).mech.mode.tapeMoving = false := by
  decide +kernel

/-- A BOT edge taken second beside a memory-stop crossing, and a crossing to come. -/
theorem test_meets_PositionMoves_crossing :
    (let s := { holding .halted 721 [title 1 0 500] with crossed := true }
     s.mainPower = true ∧ s.tim.run = none ∧ s.pos.place = some ⟨721, .exact⟩ ∧ s.crossed = true ∧
      s.mech.mode ≠ .recording ∧ s.mech.mode.tapeMoving = false ∧ s.cat.thisLoad = [] ∧ s.cat.recording = none ∧
      (∀ c ∈ s.cat.cassettes, (orderTitles (titlesOf s c.tag)).map (·.1) = c.titles) ∧ s.cue.seek = none) ∧
    (∀ z ∈ [(721 : Int), 999],
      let s := { deck .rew with pos := { (deck .rew).pos with
        memoryStop := true, zero := some z, wind := some ⟨71680, 0, 7, Config.reel .s625 .b⟩ } }
      s.mainPower = true ∧ s.tim.run = none ∧ s.cue.seek = none ∧ s.mech.target = none ∧ s.mech.mode = .rew ∧
      s.mech.cause = .none ∧ s.crossed = false ∧ s.pos.memoryStop = true ∧ s.pos.place = some ⟨1000, .exact⟩ ∧
      s.pos.zero = some z ∧ z < 1000 ∧ clampP .estimated (1000 - ((max (71680 - 69) 44698 + 0) / 256 : Nat)) ≤ z ∧
      (after .rewWindStep s).mainPower = true ∧ (after .rewWindStep s).link.buffer = .ready ⟨.ok, []⟩) := by decide +kernel

theorem test_meets_PositionMoves_recording :
    let s := recordingDeck .recording
    s.mainPower = true ∧ s.mech.mode = .recording ∧ s.mech.forward = true ∧ s.tim.run = none ∧ s.cue.seek = none ∧
    s.pos.memoryStop = false ∧ s.cue.writer = .idle ∧ s.pos.place = some ⟨55010, .exact⟩ ∧
    s.cat.recording = some ⟨55000, true, some 0, some 12⟩ ∧ titleAt s 0 = some { title 7 55000 10 with isOpen := true } ∧
    cassetteOf s 12 = some (cassette 1) ∧ (cassette 1).titles = [0] ∧ (cassette 1).dead = [] ∧
    s.cue.identity.tag = some 12 := by decide +kernel

/-- The seventeen pulses after the lead of a mark, with a parity bit. -/
def pulses (tag slot : Nat) (parity : Bool) : List Bool :=
  (List.range 16).map (fun k => markPulse tag slot (k + 9)) ++ [parity]

/-- A deck in PLAY on the tape of cassette 12, the identity and its flag as given. -/
def reading (e : Identity) (opened : Bool) (pl : Place) (ts : List Title) : State :=
  let h := holding .play 0 ts
  { h with
    pos := { h.pos with place := some pl }
    cue := { Cue.initial with reader := .data [], identity := e, titlesOpened := opened }
    cat := { h.cat with cassettes := h.cat.cassettes ++ [{ cassette 0 with tag := 40 }] } }

/-- The identities by which a mark of tag 12 is named, MIXED, or of the tag that is READ already; and the positions and titles
with which it is accepted or not. -/
theorem test_meets_MarksAreRead :
    (pulses 12 5 true).length = 17 ∧ bitsValue ((pulses 12 5 false).take 10) = 12 ∧
    bitsValue (((pulses 12 5 false).drop 10).take 6) = 5 ∧ ((pulses 12 5 false).filter id).length % 2 = 0 ∧
    ((pulses 12 5 true).filter id).length % 2 = 1 ∧ ((pulses 1023 63 false).filter id).length % 2 = 0 ∧
    (∀ e ∈ [(Identity.none, false), (.asserted 12, true), (.asserted 40, false), (.asserted 40, true), (.read 40, true),
        (.read 12, true)],
      ∀ pl ∈ [Place.mk (-5) .unanchored, ⟨50500, .exact⟩, ⟨50501, .exact⟩, ⟨900000, .estimated⟩],
      let s := reading e.1 e.2 pl [title 5 50000 5000]
      s.mainPower = true ∧ s.tim.run = none ∧ s.mech.mode = .play ∧ s.cue.identity = e.1 ∧ s.cue.titlesOpened = e.2 ∧
      cassetteOf s 1023 = none ∧ cassetteOf s 12 = some (cassette 1) ∧ s.cue.seek = none ∧
      titleBySlot s 12 5 = some (0, title 5 50000 5000) ∧ 5 ∉ (cassette 1).dead.map (·.slot) ∧ s.pos.place = some pl ∧
      s.cat.thisLoad = [] ∧ s.cat.recording = none ∧ orderTitles (titlesOf s 12) = titlesOf s 12 ∧ fr s = 25) ∧
    apart 50500 50000 = 20 * 25 ∧ 20 * 25 < apart 50501 50000 := by decide +kernel

/-- R187: a step onto a title beside a mark hold, a hold on a load without an identity, and marks that become a hold. -/
theorem test_meets_LockFlagsAndMute_seen :
    (let h := holding .play 49 [title 1 50 100]
     let s := { h with lock := { h.lock with hold := some ⟨12, 5, false⟩ } }
     let t := after .countingStep s
     s.cat.current ≠ some 0 ∧ t.cat.current = some 0 ∧ t.lock.hold.isSome = true) ∧
    (let s := { State.reset with lock := { State.reset.lock with hold := some ⟨12, 5, false⟩ } }
     Fresh s ∧ s.mainPower = true ∧ s.cue.identity = .none ∧ (after .null s).cue.identity = .none ∧
      (after .null s).lock.hold.isSome = true) ∧
    (∀ m ∈ [Mode.play, .searchFwd], ∀ e ∈ [Identity.none, .read 12, .asserted 12],
      let r := reading e false ⟨1000, .exact⟩ [title 1 50000 100]
      let s := { r with mech := { r.mech with mode := m }, pos := { r.pos with shown := .seconds 20 } }
      s.cat.current = currentOf s ∧ s.pos.shown = counterValue s ∧ s.mainPower = true ∧ s.tim.run = none ∧ s.mech.mode = m ∧
      cassetteOf s 1023 = none ∧ ((pulses 1023 63 false).filter id).length % 2 = 0 ∧ titleBySlot s 12 5 = none ∧
      s.store.flight = none ∧ s.store.queue = [] ∧ s.tim.freeDue = false ∧ s.agenda = [] ∧ s.cue.identity = e) :=
  ⟨by decide +kernel, ⟨⟨rfl, rfl, fun _ => rfl, (fun h => nomatch h), rfl⟩, by decide +kernel⟩, by decide +kernel⟩

/-- R187, R64: a mark whose title is current already, read 50 HU after its start, is accepted and leaves the hold seen. -/
theorem test_meets_LockFlagsAndMute_accepted :
    let h := holding .play 50050 [title 5 50000 5000]
    let s := { h with cue := { h.cue with identity := .read 12 }, cat := { h.cat with current := some 0 } }
    s.mainPower = true ∧ currentOf s = some 0 ∧ ((pulses 12 5 false).filter id).length % 2 = 0 ∧
    (after (.markDecoded (pulses 12 5 false)) s).cue.lastMark = .decoded 12 5 true ∧
    (after (.markDecoded (pulses 12 5 false)) s).lock.hold = some ⟨12, 5, true⟩ := by decide +kernel

/-- R25: after NO-CTL the pulse that switches the capstan speed clears the flag and restarts the timer. -/
theorem test_switching_pulse_clears_no_ctl :
    let s := { deck .play with mech := { (deck .play).mech with outWindow := 7, noCtl := true, ctlTimer := none } }
    (after .capstanSpeedSwitch s).mech.noCtl = false ∧ (after .capstanSpeedSwitch s).mech.ctlTimer = some 3000 := by
  decide +kernel

/-- R179, R103: a soft reset that keeps the current source and the AFT state tells no change of them, whatever view source the
programme's claim had saved. -/
theorem test_reset_releases_no_tuner :
    let h := runningDeck .recPause .preroll .placed (programme .waiting)
    let s := { h with
      tun := { (tuned station).tun with owner := .timer, source := 1, saved := some 101, aft := .settling, working := station.working }
      link := { h.link with feed := true, notices := .empty } }
    s.tun.presets[0]? = some station ∧ s.settings.lastViewed = 1 ∧ (after .softReset s).tun.source = 1 ∧
    (after .softReset s).tun.aft = .settling ∧ (after .softReset s).tun.owner = .view ∧
    ((after .softReset s).link.notices.get .feed).all (fun n => !n.reason.testBit 2) = true ∧
    (progAt (after .softReset s) 2).map (·.outcome.result) = some .aborted := by decide +kernel

theorem test_meets_MarksPassedAndWritten :
    ((deck .searchRev).mainPower = true ∧ checkDue (deck .searchRev) = false ∧ (deck .searchRev).mech.mode = .searchRev) ∧
    (deck .play).mech.mode ≠ .searchRev ∧ (deck .play).mech.mode ≠ .recording ∧
    (let s := { recordingDeck .recording with cue := { Cue.initial with writer := .writing 1023 63 25 } }
     s.mainPower = true ∧ checkDue s = false ∧ s.mech.mode = .recording ∧ s.cue.writer = .writing 1023 63 25) := by decide +kernel

theorem test_meets_PowerIsLost :
    (∀ m ∈ [Mode.empty, .halted, .play], (deck m).mainPower = true ∧ (deck m).tim.run = none ∧ free (deck m) = true ∧
      (deck m).mech.mode = m ∧ (deck m).cue.writer = .idle) ∧
    (writing [] []).store.flight = some ⟨.settings .factory, true⟩ ∧ (deck .play).store.flight = none ∧ ({ deck .play with mainPower := false }).mainPower = false := by
  decide +kernel

theorem test_meets_PowerReturns :
    ∀ b ∈ [true, false], let s := { powered .on .play with
        mainPower := false, hold := { (deck .play).hold with intact := b } }
      s.hold.power ≠ .timerStandby ∧ RecordId.settings ∉ s.store.damaged ∧ s.hold.intact = b := by decide +kernel

/-- Stored tables with damage of each kind, and a programme whose preset is EMPTY. -/
theorem test_meets_StoreIsRestored :
    let k : Stored := { Stored.factory with
      programmes := (List.replicate 16 Programme.factory).set 2 { programme .waiting with source := 5 }
      cassettes := (List.replicate 48 none).set 3 (some { cassette 1 with place := 3 })
      titles := (List.replicate 256 none).set 0 (some (title 1 500 5000)) }
    let s := { State.reset with mainPower := false, store := { State.reset.store with
      stored := k, damaged := [.settings, .preset 99, .programme 0, .cassette 3, .title 255] } }
    s.store.stored.presets.length = 99 ∧ s.store.stored.programmes.length = 16 ∧ s.store.stored.cassettes.length = 48 ∧
    s.store.stored.titles.length = 256 ∧ RecordId.preset 99 ∈ s.store.damaged ∧ RecordId.preset 1 ∉ s.store.damaged ∧
    RecordId.programme 0 ∈ s.store.damaged ∧ RecordId.programme 2 ∉ s.store.damaged ∧ RecordId.cassette 3 ∈ s.store.damaged ∧
    RecordId.title 255 ∈ s.store.damaged ∧
    s.store.stored.programmes[2]? = some { programme .waiting with source := 5 } ∧
    s.store.stored.cassettes[3]? = some (some { cassette 1 with place := 3 }) ∧
    s.store.stored.titles[0]? = some (some (title 1 500 5000)) ∧ (title 1 500 5000).tag = (cassette 1).tag ∧
    presetEmpty State.reset 5 = true := by decide +kernel

/-- A stored catalogue of the form that the laws require, with an OPEN title, and nothing damaged. -/
def shelved : State :=
  let k : Stored := { Stored.factory with
    cassettes := (List.replicate 48 none).set 3 (some { cassette 2 with place := 3, dead := [⟨5, none⟩] })
    titles := ((List.replicate 256 none).set 0 (some (title 1 500 5000))).set 1 (some { title 2 6000 100 with isOpen := true }) }
  { State.reset with mainPower := false, store := { State.reset.store with stored := k, damaged := [] } }

theorem test_meets_CatalogueIsRepaired :
    CatalogueOk { shelved with cat := { shelved.cat with
      cassettes := storedCassettes shelved, pool := shelved.store.stored.titles } } ∧
    (shelved.store.stored.presets.length = 99 ∧ shelved.store.stored.programmes.length = 16 ∧
      shelved.store.stored.cassettes.length = 48 ∧ shelved.store.stored.titles.length = 256 ∧ shelved.store.damaged = [] ∧
      shelved.store.stored.cassettes[3]? = some (some { cassette 2 with place := 3, dead := [⟨5, none⟩] }) ∧
      ∃ i ∈ [0, 1], (titleAt (after (.powerUp idleInputs) shelved) i).isSome = true) :=
  ⟨catalogueOk_meets (by decide +kernel), by decide +kernel⟩

end Sys2Proof.Tests
end

section
/-! The timer programmes (8.2, 8.4): the next occurrence of a programme (R145), and PROGRAMME-DISABLE (R154). -/

namespace Sys2Proof.Machine

open Sys2Proof

/-! ### The days of a programme (R145) -/

/-- Conditions 2 to 5 of R145 for day `d`: all but the range of the day number. -/
def Programme.Meets (p : Programme) (today now d : Nat) : Prop :=
  (∀ l, p.lastDay = some l → l < d) ∧ today ≤ d + 1 ∧ now < (p.runOn d).stop ∧ p.fitsKind d = true

theorem Programme.fitsDay_iff (p : Programme) (today now d : Nat) :
    p.fitsDay today now d = true ↔ d ≤ 36524 ∧ p.Meets today now d := by
  change _ ↔ d ≤ Config.lastDay ∧ _
  cases hl : p.lastDay <;> simp [Programme.fitsDay, Programme.Meets, hl, and_assoc]

theorem Programme.fitsKind_iff (p : Programme) (d : Nat) :
    p.fitsKind d = true ↔
      (p.kind = .once ∧ d = p.date) ∨ p.kind = .daily ∨ (p.kind = .weekdays ∧ d % 7 ≤ 4) ∨
        (p.kind = .weekly ∧ d % 7 = p.date % 7) := by
  cases hk : p.kind <;> simp [Programme.fitsKind, hk]

/-- Whether a repeating programme has a run on a day depends on the weekday alone. -/
theorem Programme.fitsKind_congr_weekday {p : Programme} (hk : p.kind ≠ .once) {d e : Nat} (h : d % 7 = e % 7) :
    p.fitsKind d = p.fitsKind e := by
  cases hp : p.kind with
  | once => exact absurd hp hk
  | daily | weekdays | weekly => simp [Programme.fitsKind, hp, h]

/-- A run stops no earlier than its day begins. -/
theorem Programme.day_le_runOn_stop (p : Programme) (d : Nat) : d * 1440 ≤ (p.runOn d).stop := by
  simp only [Programme.runOn]
  omega

theorem Programme.runOn_start_div {p : Programme} (hp : p.start < 1440) (d : Nat) : (p.runOn d).start / 1440 = d := by
  simp only [Programme.runOn]
  omega

/-! ### The days tried -/

/-- The first day that conditions 2 and 3 of R145 allow. -/
def Programme.firstDay (p : Programme) (today : Nat) : Nat := max (today - 1) ((p.lastDay.map (· + 1)).getD 0)

theorem Programme.firstDay_le_iff (p : Programme) (today d : Nat) :
    p.firstDay today ≤ d ↔ (∀ l, p.lastDay = some l → l < d) ∧ today ≤ d + 1 := by
  cases hl : p.lastDay with
  | none => simp [Programme.firstDay, hl]
  | some l =>
    simp only [Programme.firstDay, hl, Option.map_some, Option.getD_some, Option.some.injEq, forall_eq']
    omega

theorem Programme.daysTried_once {p : Programme} (hk : p.kind = .once) (today : Nat) : p.daysTried today = [p.date] := by
  simp [Programme.daysTried, hk]

theorem Programme.daysTried_repeating {p : Programme} (hk : p.kind ≠ .once) (today : Nat) :
    p.daysTried today = (List.range 10).map (p.firstDay today + ·) := by
  cases hp : p.kind with
  | once => exact absurd hp hk
  | daily | weekdays | weekly =>
    cases hl : p.lastDay <;> simp [Programme.daysTried, Programme.firstDay, hp, hl]

theorem Programme.daysTried_ascending (p : Programme) (today : Nat) : (p.daysTried today).Pairwise (· < ·) := by
  by_cases hk : p.kind = .once
  · simp [Programme.daysTried_once hk]
  · rw [Programme.daysTried_repeating hk, List.pairwise_map]
    exact List.pairwise_lt_range.imp fun h => Nat.add_lt_add_left h _

/-- From tomorrow on conditions 3 and 4 hold of every day, so a day that meets the conditions has one of its own weekday
among the days tried, and no later than itself. -/
theorem Programme.exists_tried_le {p : Programme} {today now d : Nat} (hnow : now < (today + 1) * 1440)
    (hd : p.fitsDay today now d = true) :
    ∃ e ∈ p.daysTried today, e ≤ d ∧ p.fitsDay today now e = true := by
  obtain ⟨hrange, hlast, hyesterday, -, hkind⟩ := (p.fitsDay_iff today now d).1 hd
  by_cases hk : p.kind = .once
  · have hdate : d = p.date := by simpa [Programme.fitsKind, hk] using hkind
    exact ⟨d, by simp [Programme.daysTried_once hk, hdate], Nat.le_refl _, hd⟩
  · rw [Programme.daysTried_repeating hk]
    have hfirst : p.firstDay today ≤ d := (p.firstDay_le_iff today d).2 ⟨hlast, hyesterday⟩
    by_cases hnear : d < p.firstDay today + 10
    · exact ⟨d, List.mem_map.2 ⟨d - p.firstDay today, List.mem_range.2 (by omega), by omega⟩, Nat.le_refl _, hd⟩
    · obtain ⟨i, hi, hweekday⟩ : ∃ i, i < 7 ∧ (p.firstDay today + (2 + i)) % 7 = d % 7 :=
        ⟨(d - p.firstDay today - 2) % 7, Nat.mod_lt _ (by omega), by omega⟩
      obtain ⟨hlast', htoday⟩ := (p.firstDay_le_iff today _).1 (Nat.le_refl (p.firstDay today))
      refine ⟨p.firstDay today + (2 + i), List.mem_map.2 ⟨2 + i, List.mem_range.2 (by omega), rfl⟩, by omega, ?_⟩
      refine (p.fitsDay_iff today now _).2 ⟨by omega, fun l hl => ?_, by omega, ?_, ?_⟩
      · have := hlast' l hl
        omega
      · calc now < (today + 1) * 1440 := hnow
          _ ≤ (p.firstDay today + (2 + i)) * 1440 := Nat.mul_le_mul_right _ (by omega)
          _ ≤ _ := p.day_le_runOn_stop _
      · rw [p.fitsKind_congr_weekday hk hweekday, hkind]

/-! ### The next occurrence -/

theorem find?_ascending_le {l : List Nat} (hl : l.Pairwise (· < ·)) {q : Nat → Bool} {d e : Nat}
    (hd : l.find? q = some d) (he : e ∈ l) (hq : q e = true) : d ≤ e := by
  obtain ⟨-, before, after, rfl, hbefore⟩ := List.find?_eq_some_iff_append.1 hd
  rcases List.mem_append.1 he with h | h
  · exact absurd hq (by simpa using hbefore e h)
  · rcases List.mem_cons.1 h with rfl | h
    · exact Nat.le_refl _
    · have := (List.pairwise_cons.1 (List.pairwise_append.1 hl).2.1).1 e h
      omega

theorem Programme.nextOccurrence_some {p : Programme} {today now : Nat} (hnow : now < (today + 1) * 1440) {o : Occurrence}
    (h : p.nextOccurrence today now = some o) :
    ∃ d, o = p.runOn d ∧ p.fitsDay today now d = true ∧ ∀ e, p.fitsDay today now e = true → d ≤ e := by
  obtain ⟨d, hfind, rfl⟩ := Option.map_eq_some_iff.1 h
  refine ⟨d, rfl, List.find?_some hfind, fun e he => ?_⟩
  obtain ⟨e', htried, hle, he'⟩ := Programme.exists_tried_le hnow he
  exact Nat.le_trans (find?_ascending_le (p.daysTried_ascending today) hfind htried he') hle

theorem Programme.nextOccurrence_none {p : Programme} {today now : Nat} (hnow : now < (today + 1) * 1440)
    (h : p.nextOccurrence today now = none) (d : Nat) : p.fitsDay today now d ≠ true := by
  intro hd
  obtain ⟨e, htried, -, he⟩ := Programme.exists_tried_le hnow hd
  exact List.find?_eq_none.1 (Option.map_eq_none_iff.1 h) e htried he

/-- Settles O38: the days tried are ascending and hold, for every day that meets the conditions, one no later that does. -/
theorem nextOccurrenceIsTheEarliest : Obligations.NextOccurrenceIsTheEarliest := by
  unfold Obligations.NextOccurrenceIsTheEarliest
  intro p today now hstart _ _ hnow
  refine ⟨fun _ => rfl, p.fitsKind_iff, fun o ho => ?_, fun hnone d hd hmeets => ?_⟩
  · obtain ⟨d, rfl, hfits, hearliest⟩ := p.nextOccurrence_some hnow ho
    obtain ⟨hrange, hlast, hyesterday, hstop, hkind⟩ := (p.fitsDay_iff today now d).1 hfits
    refine ⟨d, (p.runOn_start_div hstart d).symm, hrange, rfl, hlast, hyesterday, hstop, hkind, fun e he hmeets => ?_⟩
    have := hearliest e ((p.fitsDay_iff today now e).2 ⟨by omega, hmeets⟩)
    omega
  · exact p.nextOccurrence_none hnow hnone d ((p.fitsDay_iff today now d).2 ⟨hd, hmeets⟩)

/-! ### The programme table -/

theorem listSet_eq_set {α : Type} (v : α) : ∀ (l : List α) (n : Nat), listSet l n v = l.set n v
  | [], _ => rfl
  | _ :: _, 0 => rfl
  | x :: xs, n + 1 => congrArg (x :: ·) (listSet_eq_set v xs n)

theorem progAt_of_mem_slots {s : State} {x : Nat × Programme} (h : x ∈ slots s) : progAt s x.1 = some x.2 := by
  obtain ⟨i, hi, rfl⟩ := List.mem_iff_getElem.1 h
  simp only [slots, List.length_zip, List.length_range, Nat.min_self] at hi
  simp [slots, progAt, hi]

theorem oldestDone_mem_done {l : List (Nat × Programme)} {x : Nat × Programme} (h : oldestDone l = some x) :
    x ∈ l ∧ x.2.state = .done := by
  induction l with
  | nil => simp [oldestDone] at h
  | cons y rest ih =>
    simp only [oldestDone] at h
    split at h
    next z hz =>
      split at h
      next hy =>
        obtain rfl := Option.some.inj h
        exact ⟨List.mem_cons_self, hy.1⟩
      next =>
        obtain ⟨hmem, hdone⟩ := ih (hz.trans h)
        exact ⟨List.mem_cons_of_mem _ hmem, hdone⟩
    next =>
      split at h
      next hy =>
        obtain rfl := Option.some.inj h
        exact ⟨List.mem_cons_self, hy⟩
      next => exact nomatch h

/-- EDIT-OPEN(NEW) takes an EMPTY slot, or else a DONE one (R150). -/
theorem newSlot_empty_or_done {s : State} {n : Nat} (h : newSlot s = some n) :
    ∃ p, progAt s n = some p ∧ (p.state = .empty ∨ p.state = .done) := by
  unfold newSlot at h
  split at h
  next m p hfind =>
    obtain rfl := Option.some.inj h
    exact ⟨p, progAt_of_mem_slots (List.mem_of_find?_eq_some hfind),
      .inl (by simpa using List.find?_some hfind)⟩
  next =>
    obtain ⟨x, hx, rfl⟩ := Option.map_eq_some_iff.1 h
    obtain ⟨hmem, hdone⟩ := oldestDone_mem_done hx
    exact ⟨x.2, progAt_of_mem_slots hmem, .inr hdone⟩

/-! ### The checks of the programme requests (R144) -/

theorem progState_of_progAt {s : State} {slot : Nat} {p : Programme} (h : progAt s slot = some p) :
    progState s slot = p.state := by
  simp [progState, h]

theorem progSlotOk_iff {slot : Nat} : progSlotOk slot = true ↔ slot < 16 := decide_eq_true_iff

/-- The checks of R144 are passed, and those of the request itself decide. -/
theorem firstHolding_programmeChecks_passed {s : State} {slot : Nat} (hw : wiping s .programmes = false) (hs : slot < 16)
    (hp : s.hold.power ≠ .timerStandby) (own : List (Bool × Result)) :
    firstHolding (programmeChecks slot s ++ own) = firstHolding own := by
  simp [programmeChecks, programmesBusy, progSlotOk_iff.2 hs, standby, firstHolding, hw, hp]

theorem firstHolding_programmeChecks_busy {s : State} {slot : Nat} (hw : wiping s .programmes = true)
    (own : List (Bool × Result)) : firstHolding (programmeChecks slot s ++ own) = some .busy := by
  simp [programmeChecks, programmesBusy, firstHolding, hw]

theorem firstHolding_programmeChecks_range {s : State} {slot : Nat} (hw : wiping s .programmes = false) (hs : 16 ≤ slot)
    (own : List (Bool × Result)) : firstHolding (programmeChecks slot s ++ own) = some .range := by
  have hslot : progSlotOk slot = false := Bool.eq_false_iff.2 (mt progSlotOk_iff.1 (Nat.not_lt.2 hs))
  simp [programmeChecks, programmesBusy, firstHolding, hw, hslot]

theorem firstHolding_programmeChecks_state {s : State} {slot : Nat} (hw : wiping s .programmes = false) (hs : slot < 16)
    (hp : s.hold.power = .timerStandby) (own : List (Bool × Result)) :
    firstHolding (programmeChecks slot s ++ own) = some .state := by
  simp [programmeChecks, programmesBusy, progSlotOk_iff.2 hs, standby, firstHolding, hw, hp]

/-- A programme changed and marked by a taken request: its slot alone has come to await writing. -/
theorem setProg_of {i : Instr} {s : State} {slot : Nat} {v : Programme} {body : Body}
    (hi : exec i s = .next (request false body s)) (hT : Taken s) (hQ : Quiet s)
    (hb : body (beginFrame s) = okay (setProg slot v (beginFrame s))) :
    Replies i s .ok [] { s with tim := { s.tim with programmes := s.tim.programmes.set slot v } } [] [.programme slot] := by
  refine ⟨_, hi, mark_quiet hT hb hQ rfl ⟨rfl, rfl⟩ (fun q => ?_) (fun _ _ => rfl)⟩
  simp only [State.onTim, beginFrame, listSet_eq_set]
  rfl

/-! ### PROGRAMME-DISABLE (R154) -/

/-- The checks that PROGRAMME-DISABLE makes after those of R144. -/
def disableChecks (slot : Nat) (s : State) : List (Bool × Result) :=
  [(slotRuns s slot, .busy), (progState s slot == .empty, .absent)]

/-- What PROGRAMME-DISABLE does once its checks are passed. -/
def disableBody (slot : Nat) : Body := fun s =>
  okay (if progState s slot = .disabled then s else onProg slot (fun p => { p with state := .disabled, next := none }) s)

theorem exec_programmeDisable (slot : Nat) (s : State) :
    exec (.programmeDisable slot) s = .next (request false
      (checked (fun u => programmeChecks slot u ++ disableChecks slot u) (disableBody slot)) s) := rfl

theorem programmeDisable_refused {slot : Nat} {s : State} {r : Result} (hT : Taken s) (hQ : Quiet s)
    (h : firstHolding (programmeChecks slot s ++ disableChecks slot s) = some r) : Refuses (.programmeDisable slot) s r :=
  refuse_of (exec_programmeDisable slot s) hT hQ (checked_refused h)

section
variable {slot : Nat} {s : State} {p : Programme} (hat : progAt s slot = some p)
include hat

theorem firstHolding_disableChecks_busy (h : p.state = .preroll ∨ p.state = .recording) :
    firstHolding (disableChecks slot s) = some .busy :=
  firstHolding_head (by simpa [slotRuns, progState_of_progAt hat] using h)

theorem firstHolding_disableChecks_absent (h : p.state = .empty) : firstHolding (disableChecks slot s) = some .absent := by
  simp [disableChecks, firstHolding, slotRuns, progState_of_progAt hat, h]

theorem firstHolding_disableChecks_passed
    (h : p.state = .waiting ∨ p.state = .held ∨ p.state = .done ∨ p.state = .disabled) :
    firstHolding (disableChecks slot s) = none := by
  rcases h with h | h | h | h <;> simp [disableChecks, firstHolding, slotRuns, progState_of_progAt hat, h]

theorem disableBody_disabled (h : p.state = .disabled) : disableBody slot s = okay s := by
  simp [disableBody, progState_of_progAt hat, h]

theorem disableBody_stored (h : p.state ≠ .disabled) :
    disableBody slot s = okay (setProg slot { p with state := .disabled, next := none } s) := by
  simp [disableBody, progState_of_progAt hat, h, onProg, hat]

end

/-- Settles O39: the first check that holds decides, and a programme that passes them all is stored DISABLED. -/
theorem programmeDisableRule : Obligations.ProgrammeDisableRule := by
  unfold Obligations.ProgrammeDisableRule
  intro slot s hT hQ
  refine ⟨fun hw => programmeDisable_refused hT hQ (firstHolding_programmeChecks_busy hw _),
    fun hw hs => programmeDisable_refused hT hQ (firstHolding_programmeChecks_range hw hs _),
    fun hw hs hp => programmeDisable_refused hT hQ (firstHolding_programmeChecks_state hw hs hp _),
    fun hw hs hp p hat => ?_, fun n hn p hat hdisabled => ?_⟩
  · have hown := firstHolding_programmeChecks_passed hw hs hp (disableChecks slot s)
    have hpasses (h : p.state = .waiting ∨ p.state = .held ∨ p.state = .done ∨ p.state = .disabled) :
        checked (fun u => programmeChecks slot u ++ disableChecks slot u) (disableBody slot) (beginFrame s) =
          disableBody slot (beginFrame s) :=
      checked_passed (hown.trans (firstHolding_disableChecks_passed hat h))
    refine ⟨fun h => programmeDisable_refused hT hQ (hown.trans (firstHolding_disableChecks_busy hat h)),
      fun h => programmeDisable_refused hT hQ (hown.trans (firstHolding_disableChecks_absent hat h)), fun h => ?_, fun h => ?_⟩
    · have hstored : p.state ≠ .disabled := by rcases h with h | h | h <;> simp [h]
      have hpass := hpasses (by rcases h with h | h | h <;> simp [h])
      exact setProg_of (exec_programmeDisable slot s) hT hQ (hpass.trans (disableBody_stored hat hstored))
    · have hpass := hpasses (.inr (.inr (.inr h)))
      exact read_of (exec_programmeDisable slot s) hT hQ (hpass.trans (disableBody_disabled hat h))
  · obtain ⟨q, hq, hstate⟩ := newSlot_empty_or_done hn
    obtain rfl : q = p := Option.some.inj (hq.symm.trans hat)
    simp [hdisabled] at hstate

end Sys2Proof.Machine
end

section
/-! The parental lock (10.2): RELOCK (R183). -/

namespace Sys2Proof.Machine

open Sys2Proof

/-! ### RELOCK (R183) -/

/-- A lock that is open becomes locked, and its attempts are kept. -/
theorem closeLock_unlocked {s : State} (h : s.lock.state = .unlocked) :
    closeLock s = { s with lock := { s.lock with state := .locked } } := by
  simp [closeLock, State.onLock, h]

/-- A taken request that changes the lock and nothing else. -/
theorem lock_of {i : Instr} {s : State} {body : Body} {l : Lock} (hi : exec i s = .next (request false body s))
    (hT : Taken s) (hQ : Quiet s) (hb : body (beginFrame s) = okay { beginFrame s with lock := l }) :
    Replies i s .ok [] { s with lock := l } [] [] :=
  ⟨_, hi, request_quiet hT hb hQ rfl rfl (fun _ _ => rfl) (by simp) (fun _ h => .inr h)⟩

/-- What RELOCK does in each state of the lock. -/
def relockBody : Body := fun s =>
  match s.lock.state with
  | .none => answer .state s
  | .locked => okay s
  | .unlocked => okay (closeLock s)
  | .frozen => answer .frozen s

theorem exec_relock (s : State) : exec .relock s = .next (request false relockBody s) := rfl

section
variable {s : State}

theorem relockBody_unlocked (h : s.lock.state = .unlocked) :
    relockBody s = okay { s with lock := { s.lock with state := .locked } } := by
  simp [relockBody, h, closeLock_unlocked h]

theorem relockBody_locked (h : s.lock.state = .locked) : relockBody s = okay s := by
  simp [relockBody, h]

theorem relockBody_frozen (h : s.lock.state = .frozen) : relockBody s = answer .frozen s := by
  simp [relockBody, h]

theorem relockBody_none (h : s.lock.state = .none) : relockBody s = answer .state s := by
  simp [relockBody, h]

end

/-- Settles O45: one state of the lock at a time, RELOCK closing an open lock and answering alone in every other state. -/
theorem relockRule : Obligations.RelockRule := by
  unfold Obligations.RelockRule
  intro s hT hQ
  have hexec := exec_relock s
  refine ⟨fun hunlocked => ?_, fun hlocked => ?_, fun hfrozen => ?_, fun hnone => ?_⟩
  · exact lock_of hexec hT hQ (relockBody_unlocked (s := beginFrame s) hunlocked)
  · exact read_of hexec hT hQ (relockBody_locked (s := beginFrame s) hlocked)
  · exact refuse_of hexec hT hQ (relockBody_frozen (s := beginFrame s) hfrozen)
  · exact refuse_of hexec hT hQ (relockBody_none (s := beginFrame s) hnone)

end Sys2Proof.Machine
end
